-- ==== Sys2Proof/Word.lean ====
section
/-! DEFINITION. The word types of the KT16: the bytes of its frames, its 16-bit sets, and the numbers of its channels,
slots and buttons. -/

namespace Sys2Proof

/-- A byte of a frame, a record or the default program store (Chapter 12). -/
abbrev Byte := BitVec 8

/-- A 16-bit value: a channel set (bit n is CHn) or a reason set (R181). -/
abbrev Word := BitVec 16

/-- The number of a relay channel, CH0..CH15. -/
abbrev Chan := Fin 16

/-- The number of an entry slot of the Schedule Table, 0..127 (R1). -/
abbrev SlotNo := Fin 128

/-- The number of a pushbutton, B0..B3 (R103). -/
abbrev ButtonNo := Fin 4

end Sys2Proof
end

