-- ==== Sys2Proof/Syntax.lean ====
section
/-! DEFINITION. The commands of the KT16: one constructor for each row of spec/opcode_table.json.

Two kinds of row stand in the table. A HOST COMMAND row is a request of the command catalogue (Chapter 11): its operands are
the TAG the host chose and the parameter bytes, raw, so that every length and every byte the host can send is covered (R189).
An EVENT row is something that happens at the part by itself or at one of its pins. Its first operand is `dt`, the time that
passed since the step before it, in periods of 1/32768 s (log 2); the others say which channel or button is meant, or what the
pin carried. -/

namespace Sys2Proof

/-- One command or event, as the rows of spec/opcode_table.json name them. -/
inductive Instr where
  -- Chapter 1, the Schedule Table
  /-- CREATE_ENTRY (R13). -/
  | createEntry (tag : Byte) (params : List Byte)
  /-- READ_ENTRY (R16). -/
  | readEntry (tag : Byte) (params : List Byte)
  /-- MODIFY_ENTRY (R17). -/
  | modifyEntry (tag : Byte) (params : List Byte)
  /-- SUSPEND_ENTRY (R18). -/
  | suspendEntry (tag : Byte) (params : List Byte)
  /-- RESUME_ENTRY (R19). -/
  | resumeEntry (tag : Byte) (params : List Byte)
  /-- RETIRE_ENTRY (R20). -/
  | retireEntry (tag : Byte) (params : List Byte)
  /-- START_ENTRY (R21). -/
  | startEntry (tag : Byte) (params : List Byte)
  /-- END_ENTRY (R22). -/
  | endEntry (tag : Byte) (params : List Byte)
  /-- FIND_ENTRIES (R23). -/
  | findEntries (tag : Byte) (params : List Byte)
  /-- CLEAR_ALL (R24, R59, R78). -/
  | clearAll (tag : Byte) (params : List Byte)
  -- Chapter 3, the Exception Calendar
  /-- ADD_EXCEPTION (R55). -/
  | addException (tag : Byte) (params : List Byte)
  /-- REMOVE_EXCEPTION (R56). -/
  | removeException (tag : Byte) (params : List Byte)
  /-- LIST_EXCEPTIONS (R57). -/
  | listExceptions (tag : Byte) (params : List Byte)
  /-- DAY_CLASS (R58). -/
  | dayClass (tag : Byte) (params : List Byte)
  -- Chapter 4, claims and channel targets
  /-- OVERRIDE (R73). -/
  | override (tag : Byte) (params : List Byte)
  /-- CLEAR_OVERRIDE (R74). -/
  | clearOverride (tag : Byte) (params : List Byte)
  /-- HOLD (R75). -/
  | hold (tag : Byte) (params : List Byte)
  /-- RELEASE_HOLD (R76). -/
  | releaseHold (tag : Byte) (params : List Byte)
  /-- READ_CHANNEL (R77). -/
  | readChannel (tag : Byte) (params : List Byte)
  -- Chapter 5, the Switching Engine
  /-- CONFIGURE_CHANNEL (R83). -/
  | configureChannel (tag : Byte) (params : List Byte)
  /-- SET_STAGGER (R93). -/
  | setStagger (tag : Byte) (params : List Byte)
  -- Chapter 6, the buttons
  /-- CONFIGURE_BUTTON (R104). -/
  | configureButton (tag : Byte) (params : List Byte)
  /-- READ_BUTTON (R105). -/
  | readButton (tag : Byte) (params : List Byte)
  -- Chapter 7, the Light Monitor
  /-- SET_LIGHT_LIMITS (R118). -/
  | setLightLimits (tag : Byte) (params : List Byte)
  /-- READ_LIGHT (R119). -/
  | readLight (tag : Byte) (params : List Byte)
  -- Chapter 8, the Time Base and the Line Monitor
  /-- SET_TIME (R129). -/
  | setTime (tag : Byte) (params : List Byte)
  /-- READ_TIME (R131). -/
  | readTime (tag : Byte) (params : List Byte)
  /-- SET_TIME_SOURCE (R130). -/
  | setTimeSource (tag : Byte) (params : List Byte)
  /-- SET_LINE_CONFIRM (R138). -/
  | setLineConfirm (tag : Byte) (params : List Byte)
  /-- READ_LINE (R139). -/
  | readLine (tag : Byte) (params : List Byte)
  -- Chapter 9, the Supply Controller
  /-- SET_SUPPLY (R150). -/
  | setSupply (tag : Byte) (params : List Byte)
  /-- READ_SUPPLY (R151). -/
  | readSupply (tag : Byte) (params : List Byte)
  -- Chapter 10, the Default Program Store
  /-- READ_STORE (R158). -/
  | readStore (tag : Byte) (params : List Byte)
  /-- PROGRAM_STORE (R156). -/
  | programStore (tag : Byte) (params : List Byte)
  /-- LOAD_DEFAULTS (R164). -/
  | loadDefaults (tag : Byte) (params : List Byte)
  /-- LOAD_STATUS (R165). -/
  | loadStatus (tag : Byte) (params : List Byte)
  -- Chapter 11, the Host Port
  /-- READ_CHANGES (R183). -/
  | readChanges (tag : Byte) (params : List Byte)
  /-- SET_NOTICE_MASK (R185). -/
  | setNoticeMask (tag : Byte) (params : List Byte)
  /-- IDENTIFY (R187). -/
  | identify (tag : Byte) (params : List Byte)
  /-- UNKNOWN_COMMAND: a request whose CMD, `cmd`, names no command of the catalogue (R176). -/
  | unknownCommand (cmd : Byte) (tag : Byte) (params : List Byte)
  -- events at the port
  /-- TRANSACTION_START: falling edge of CSN (R169). -/
  | transactionStart (dt : Nat)
  /-- STATUS_BYTE_SHIFTED: the eighth bit of the status byte has been shifted out (R171). -/
  | statusByteShifted (dt : Nat)
  /-- REPLY_LATCH: a first byte of 0xC3 is complete (R173). -/
  | replyLatch (dt : Nat)
  /-- REQUEST_FRAME: rising edge of CSN ending a request transaction in which the whole bytes `bytes` were received, and
  `oddBits` bits after them (R170). -/
  | requestFrame (dt : Nat) (bytes : List Byte) (oddBits : Nat)
  /-- REPLY_READ_END: rising edge of CSN ending a reply read, after `shifted` whole bytes had been shifted out behind the
  status byte (R173). -/
  | replyReadEnd (dt : Nat) (shifted : Nat)
  /-- PORT_RESET: falling edge of PRSTN (R178). -/
  | portReset (dt : Nat)
  /-- PORT_RESET_RELEASE: rising edge of PRSTN (R178). -/
  | portResetRelease (dt : Nat)
  -- events at the store
  /-- PROGRAM_BYTE_DONE: the end of a byte's programming millisecond (R155). -/
  | programByteDone (dt : Nat)
  -- events of the supply
  /-- ENTER_BACKUP: VMAIN falls below 2.9 V (R144). -/
  | enterBackup (dt : Nat)
  /-- MAINS_RETURN: VMAIN rises to 3.0 V in BACKUP (R145). -/
  | mainsReturn (dt : Nat)
  /-- RESTORE_COUNTDOWN_EXPIRY: the restore countdown reaches 0 (R148). -/
  | restoreCountdownExpiry (dt : Nat)
  /-- RETAINED_SUPPLY_LOSS: the retained domain's supply falls below 2.0 V (R143). -/
  | retainedSupplyLoss (dt : Nat)
  /-- POWER_UP: the retained domain's supply rises through 2.0 V (R143); `vmainUp` says that VMAIN is already at 3.0 V or
  above, and `crystalRuns` what the crystal-stop detector finds (R123). -/
  | powerUp (vmainUp : Bool) (crystalRuns : Bool)
  -- events of the clock
  /-- SECOND_BOUNDARY: the elapsed count reaches its limit (R127). -/
  | secondBoundary (dt : Nat)
  /-- MINUTE_EVALUATION: the Schedule Table takes a minute tick (R31). -/
  | minuteEvaluation (dt : Nat)
  /-- OVERRIDE_COUNTDOWN: the Claim Manager takes a minute tick (R69). -/
  | overrideCountdown (dt : Nat)
  -- events at LINE and the crystal
  /-- RISING_CROSSING: a rising crossing of LINE (R132). -/
  | risingCrossing (dt : Nat)
  /-- FALLING_CROSSING: a falling crossing of LINE (R132). -/
  | fallingCrossing (dt : Nat)
  /-- ABSENCE_TIMEOUT: 60 ms without a rising crossing (R136). -/
  | absenceTimeout (dt : Nat)
  /-- CRYSTAL_STOP: the detector declares the crystal STOPPED; `dt` periods in which the crystal ran came before the 2 ms
  in which it did not (R124). -/
  | crystalStop (dt : Nat)
  /-- CRYSTAL_RUN: the detector sees a crystal cycle again (R124). -/
  | crystalRun (dt : Nat)
  /-- CRYSTAL_TICK: the 10 ms crystal tick (R90). -/
  | crystalTick (dt : Nat)
  -- events of the relays
  /-- COIL_ACTION: a MONO operation's action instant (R95). -/
  | coilAction (dt : Nat) (c : Chan)
  /-- PULSE_START: a BI operation's pulse start (R96). -/
  | pulseStart (dt : Nat) (c : Chan)
  /-- OPERATION_COMPLETE: an operation's completion instant (R98). -/
  | operationComplete (dt : Nat) (c : Chan)
  -- events of the buttons
  /-- BUTTON_INPUT_LOW: a button input goes low (R106). -/
  | buttonInputLow (dt : Nat) (b : ButtonNo)
  /-- BUTTON_INPUT_HIGH: a button input goes high (R106). -/
  | buttonInputHigh (dt : Nat) (b : ButtonNo)
  /-- BUTTON_DEBOUNCE_EXPIRY: the input is still low at P + 30 ms (R106). -/
  | buttonDebounceExpiry (dt : Nat) (b : ButtonNo)
  /-- BUTTON_RELEASE_CONFIRM: the input has stayed high for 30 ms (R106). -/
  | buttonReleaseConfirm (dt : Nat) (b : ButtonNo)
  /-- LONG_PRESS: the input is low at P + 3 s (R109). -/
  | longPress (dt : Nat) (b : ButtonNo)
  -- events of the photocell, the load and the restoration
  /-- LUX_SAMPLE: the one-second photocell sample, `value` (R111). -/
  | luxSample (dt : Nat) (value : Nat)
  /-- LOAD_STEP: one item of the load (R161). -/
  | loadStep (dt : Nat)
  /-- RESTORE_COUNTDOWN_SECOND: a second of the restore countdown (R147). -/
  | restoreCountdownSecond (dt : Nat)
  deriving DecidableEq, Repr

end Sys2Proof
end

