-- ==== Sys2Proof/Config.lean ====
section
/-! DEFINITION. What the part fixes once: its capacities, its rates, and the one value the spec leaves open. -/

namespace Sys2Proof.Config

/-- The pool records from which schedule claims are drawn (R64). -/
def poolRecords : Nat := 192

/-- The most exception records held (R50). -/
def calendarRecords : Nat := 48

/-- The bytes of the default program store (R154). -/
def storeBytes : Nat := 2048

/-- The erased value of a byte of the store, which an unlisted offset reads as (R154). -/
def erasedByte : Byte := 0xFF

/-- The places of the request queue and of the reply queue (R174, R175). -/
def queuePlaces : Nat := 4

/-- The most parameter bytes of a request (R170). -/
def maxParams : Nat := 60

/-- The cap on the life of a schedule claim or an override, in minute ticks (R5, R68). -/
def capMinutes : Nat := 1440

/-- Crystal cycles in a second (R127). -/
def second : Nat := 32768

/-- The absence timer of the Line Monitor, 60 ms, in crystal cycles (R136 gives the count). -/
def absenceCycles : Nat := 1966

/-- The 2 ms of the crystal-stop detector in periods of 1/32768 s, rounded (R124). -/
def detectorPeriods : Nat := 66

/-- FREE VALUE (log 1): whether the byte whose millisecond is in progress when the supply falls is left at its programmed
value (`true`) or at its old one (`false`). R157 says only that it is one of the two and depends on the moment of the fall.
The argument is the count of such falls, `State.freeIndex`, so that no two falls need agree. -/
opaque backupByteProgrammed : Nat → Bool

end Sys2Proof.Config
end

