-- ==== Sys2Proof/Machine/State.lean ====
section
/-! DEFINITION. Every piece of state the data book gives the KT16, as plain data, with its cold-start values and the state
after reset. Each block of the book has a structure of its own. Options stand for what the book calls absent. -/

namespace Sys2Proof.Machine

/-! ## Why a command can stop -/

/-- No command or event of the KT16 stops the part: every refusal the book knows is a reply (R180) after which the part goes
on. So there is no reason for a fault. -/
inductive Fault where
  deriving DecidableEq, Repr

/-- The reasons for which this model has no answer. -/
inductive Refusal where
  /-- The dispatch has no meaning for the command yet. No command raises it in this model; it would be safe, since a run
  that stops proves nothing about what follows. -/
  | notModelled (mnemonic : String)
  deriving DecidableEq, Repr

/-! ## Calendar values (R122) -/

/-- A date of the calendar range 2000-01-01..2199-12-31. -/
structure Date where
  year : Nat
  month : Nat
  day : Nat
  deriving DecidableEq, Repr

/-- A time of day hh:mm. -/
structure TimeOfDay where
  hour : Nat
  minute : Nat
  deriving DecidableEq, Repr

/-- A calendar minute: a date together with hh:mm. -/
structure CalMinute where
  date : Date
  tod : TimeOfDay
  deriving DecidableEq, Repr

/-- The calendar time to the second. The weekday is not stored (R122). -/
structure CalTime where
  date : Date
  tod : TimeOfDay
  second : Nat
  deriving DecidableEq, Repr

/-- A month and a day with no year, for annual exceptions (R48). -/
structure MonthDay where
  month : Nat
  day : Nat
  deriving DecidableEq, Repr

/-- The class of a day (R52). -/
inductive DayClass where
  | normal | x1 | x2 | x3 | x4
  deriving DecidableEq, Repr

/-- Where a record came from. -/
inductive Origin where
  | host | store
  deriving DecidableEq, Repr

/-! ## Chapter 1: the Schedule Table -/

/-- What starts an entry. `none` in a field of a pattern is ANY (R26). -/
inductive StartTrigger where
  | atTime (minute : Nat) (hour dayOfMonth month : Option Nat)
  | atDusk
  | atDawn
  deriving DecidableEq, Repr

/-- What ends an entry's claim (R38). -/
inductive EntryEnd where
  | after (minutes : Nat)
  | atTime (t : TimeOfDay)
  | onLightDay
  | onLightNight
  deriving DecidableEq, Repr

/-- The body of an entry: the fields the host or the store supplies. `count` is the occurrence count as now held (R10). -/
structure EntryBody where
  channels : Word
  action : Bool
  priority : Nat
  trigger : StartTrigger
  windowEarliest : Option TimeOfDay
  windowLatest : Option TimeOfDay
  startFallback : Option TimeOfDay
  weekdays : Byte
  classes : Byte
  ending : EntryEnd
  endFallback : Option TimeOfDay
  validFrom : Option Date
  validUntil : Option Date
  count : Option Nat
  catchUp : Bool
  deriving DecidableEq, Repr

/-- The claim state of an ACTIVE entry (R5). -/
structure ClaimState where
  start : CalMinute
  endInstant : Option CalMinute
  remaining : Option Nat
  fallbackInstant : Option CalMinute
  cap : Nat
  deriving DecidableEq, Repr

/-- Why an entry is ENDED. -/
inductive EndReason where
  | spent | expired
  deriving DecidableEq, Repr

/-- The state of an entry, with the fields that are present in that state alone. FREE is the absence of the entry. -/
inductive EntryState where
  | waiting
  | armed
  | active (claim : ClaimState) (marked : Bool)
  | suspended
  | ended (reason : EndReason) (endedAt : CalMinute)
  deriving DecidableEq, Repr

/-- An entry record. -/
structure Entry where
  origin : Origin
  body : EntryBody
  state : EntryState
  starts : Nat
  missed : Nat
  lastStart : Option Date
  deriving DecidableEq, Repr

/-- One of the 128 slots: its generation, and its entry unless it is FREE (R1). -/
structure Slot where
  generation : Byte
  entry : Option Entry
  deriving DecidableEq, Repr

/-- The Schedule Table: the slots, and the ENDED order (R15). -/
structure ScheduleTable where
  slots : Vector Slot 128
  endedOrder : List SlotNo
  deriving DecidableEq, Repr

/-! ## Chapter 3: the Exception Calendar -/

/-- The days an exception record covers: a dated or an annual span (R49). -/
inductive ExceptionSpan where
  | dated (first last : Date)
  | annual (first last : MonthDay)
  deriving DecidableEq, Repr

/-- An exception record (R48). -/
structure ExceptionRecord where
  span : ExceptionSpan
  cls : DayClass
  origin : Origin
  deriving DecidableEq, Repr

/-- The Exception Calendar: its records in list order (R51) and today's class (R53). -/
structure ExceptionCalendar where
  records : List ExceptionRecord
  todayClass : DayClass
  deriving DecidableEq, Repr

/-! ## Chapters 4 and 5: claims and relays -/

/-- Who placed an override. -/
inductive OverrideOrigin where
  | host
  | button (b : ButtonNo)
  deriving DecidableEq, Repr

/-- How an override ends. In a button's settings the minutes are those an override will get; in a claim, those remaining. -/
inductive OverrideEnding where
  | after (minutes : Nat)
  | untilNext
  deriving DecidableEq, Repr

/-- The kind of a claim with the fields of that kind (R60). -/
inductive ClaimKind where
  | hold
  | override (origin : OverrideOrigin) (ending : OverrideEnding) (cap : Nat)
  | schedule (slot : SlotNo) (generation : Byte) (priority : Nat)
  deriving DecidableEq, Repr

/-- A claim on one channel (R60). -/
structure Claim where
  kind : ClaimKind
  action : Bool
  start : CalMinute
  deriving DecidableEq, Repr

/-- The relay kinds (R82). -/
inductive ChannelKind where
  | unused | mono | bi
  deriving DecidableEq, Repr

/-- The seven settings of a channel (R81). Delays are in steps of 0.1 ms, the dwell in seconds. -/
structure ChannelConfig where
  kind : ChannelKind
  rest : Bool
  align : Bool
  operateDelay : Nat
  releaseDelay : Nat
  pulseWidth : Nat
  dwell : Nat
  deriving DecidableEq, Repr

/-- The driven state of a channel (R85). -/
inductive Driven where
  | off | on | unknown
  deriving DecidableEq, Repr

/-- A driver pin of a channel: DRVnA or DRVnB (R82). -/
inductive DrivePin where
  | a | b
  deriving DecidableEq, Repr

/-- The record of an operation in flight (R86). Instants are crystal cycles since power-up. `acted` says that a MONO operation
has taken its coil action (R82). -/
structure Operation where
  intended : Bool
  aligned : Bool
  actionAt : Nat
  completeAt : Nat
  pin : DrivePin
  acted : Bool
  deriving DecidableEq, Repr

/-- The switch state, with the operation record while one is in flight (R86). -/
inductive SwitchState where
  | idle
  | queued
  | issued (op : Operation)
  | pulsing (op : Operation)
  deriving DecidableEq, Repr

/-- One channel: its claim list and target at the Claim Manager (R61, R62), and its configuration, driven state, switch state,
last completion instant and driver pins at the Switching Engine (R81, R85, R86, R92, R82). -/
structure Channel where
  claims : List Claim
  target : Bool
  config : ChannelConfig
  driven : Driven
  switch : SwitchState
  lastCompletion : Option Nat
  pinA : Bool
  pinB : Bool
  deriving DecidableEq, Repr

/-- The parts of the Switching Engine that all channels share: the switch queue (R87), the stagger limit (R93), and which
multiple of 10 ms the next crystal tick falls at (R90). -/
structure SwitchingEngine where
  queue : List Chan
  stagger : Nat
  nextTick : Nat
  deriving DecidableEq, Repr

/-! ## Chapter 6: the Button Unit -/

/-- The outcome of a button's latest press (R103). -/
inductive PressOutcome where
  | nothing | shortOn | shortOff | long | blocked | noAction
  deriving DecidableEq, Repr

/-- The press state with its timing: `start` is P, `high` the instant h at which the present high run began (R106). -/
inductive PressState where
  | released
  | debouncing (start : Nat)
  | pressed (start : Nat) (high : Option Nat)
  | longDone (high : Option Nat)
  deriving DecidableEq, Repr

/-- A button: its three settings, last action and press state (R103, R106), the level of its pin, and the level last sampled
(R105, R107). -/
structure Button where
  channels : Word
  ending : OverrideEnding
  enabled : Bool
  lastOutcome : PressOutcome
  lastMinute : Option CalMinute
  press : PressState
  pinLow : Bool
  sampledLow : Bool
  deriving DecidableEq, Repr

/-! ## Chapter 7: the Light Monitor -/

/-- The light state (R112). -/
inductive LightState where
  | unknown | day | dusking | night | dawning | fault
  deriving DecidableEq, Repr

/-- The side an UNKNOWN light counts for (R115). -/
inductive LightSide where
  | none | dark | bright
  deriving DecidableEq, Repr

/-- A light event. -/
inductive LightEvent where
  | dusk | dawn
  deriving DecidableEq, Repr

/-- The Light Monitor (R112), with the instant its next sample falls due (R111). -/
structure LightMonitor where
  state : LightState
  confirm : Nat
  side : LightSide
  faults : Nat
  darkEnter : Nat
  darkLeave : Nat
  confirmCount : Nat
  lastSample : Option Nat
  lastEvent : Option (LightEvent × CalMinute)
  nextSample : Nat
  deriving DecidableEq, Repr

/-! ## Chapter 8: the Time Base and the Line Monitor -/

/-- Whether calendar time can be trusted (R125). -/
inductive Validity where
  | unset | valid | doubtful
  deriving DecidableEq, Repr

/-- The time-source preference (R130). -/
inductive Preference where
  | auto | crystal
  deriving DecidableEq, Repr

/-- The active source of seconds (R126). -/
inductive TimeSource where
  | crystal | line
  deriving DecidableEq, Repr

/-- The Time Base (R123). The last two fields say that a minute tick has been handed on and not yet taken by the Schedule
Table and by the Claim Manager (R128, log 3). -/
structure TimeBase where
  time : CalTime
  elapsed : Nat
  validity : Validity
  preference : Preference
  source : TimeSource
  divisor : Option Nat
  crystalRunning : Bool
  tableTickOwed : Bool
  claimTickOwed : Bool
  deriving DecidableEq, Repr

/-- The line state (R133). -/
inductive LineState where
  | absent | acquiring | locked
  deriving DecidableEq, Repr

/-- A class of mains cycle that the Line Monitor can count for or lock to (R132). -/
inductive LineClass where
  | fifty | sixty
  deriving DecidableEq, Repr

/-- The Line Monitor (R133), with the instant its absence timer runs from (R136). -/
structure LineMonitor where
  state : LineState
  counting : Option LineClass
  agreement : Nat
  verdict : Option LineClass
  disagreement : Nat
  confirmCount : Nat
  measureStart : Option Nat
  lastCrossing : Option Nat
  lastPeriod : Option Nat
  absenceFrom : Nat
  deriving DecidableEq, Repr

/-! ## Chapter 9: the Supply Controller -/

/-- The supply state (R142). -/
inductive SupplyState where
  | run | backup | restoring
  deriving DecidableEq, Repr

/-- The kind of the last entry to RESTORING (R145). -/
inductive RestoreKind where
  | warm | cold
  deriving DecidableEq, Repr

/-- The Supply Controller (R141), with the crystal instant at which the restore countdown next falls (R147), and whether the
retained domain has stopped for want of a supply (R143). -/
structure SupplyController where
  state : SupplyState
  restoreDelay : Nat
  countdown : Option Nat
  signatureValid : Bool
  loadPending : Bool
  restoreKind : RestoreKind
  backupCount : Nat
  lastFailure : Option CalMinute
  lastReturn : Option CalMinute
  countdownDue : Nat
  stopped : Bool
  deriving DecidableEq, Repr

/-! ## Chapters 10 and 11: results, the store and the port -/

/-- The RESULT of a reply (R180). -/
inductive Result where
  | ok | accepted | nothing | mismatch
  | unknownCommand | badLength | badField | staleHandle | tableFull | calendarFull
  | overlap | notFound | wrongState | busy | expiredAlready
  deriving DecidableEq, Repr

/-- The load status (R154). -/
inductive LoadState where
  | none | running | done | storeBad | interrupted
  deriving DecidableEq, Repr

/-- Who started a load (R159). -/
inductive LoadSource where
  | restore | host
  deriving DecidableEq, Repr

/-- The phase of a running load (R159 to R161). -/
inductive LoadPhase where
  | validate | retire | apply
  deriving DecidableEq, Repr

/-- Why a store is bad (R159). -/
inductive BadReason where
  | marker | format | length | crc | chain
  deriving DecidableEq, Repr

/-- The next item of a load (R154). -/
structure NextItem where
  index : Nat
  offset : Nat
  deriving DecidableEq, Repr

/-- The first rejection of a load (R161). -/
structure Rejection where
  index : Nat
  type : Byte
  result : Result
  deriving DecidableEq, Repr

/-- The item count and item bytes length of the header that the last validation passed as far as LENGTH (R165). -/
structure StoreHeader where
  items : Nat
  length : Nat
  deriving DecidableEq, Repr

/-- The load record (R154), with the instant on the on-chip oscillator at which the load started (R161). -/
structure LoadRecord where
  state : LoadState
  source : Option LoadSource
  phase : Option LoadPhase
  next : Option NextItem
  applied : Nat
  rejected : Nat
  firstRejection : Option Rejection
  badReason : Option BadReason
  header : Option StoreHeader
  startedAt : Nat
  deriving DecidableEq, Repr

/-- A PROGRAM_STORE in progress (R154): its offset, the bytes asked for and how many are done, with the request's TAG, the
oscillator instant it began at, and whether a port reset has abandoned it (R178). -/
structure Programming where
  offset : Nat
  values : List Byte
  done : Nat
  tag : Byte
  startedAt : Nat
  abandoned : Bool
  deriving DecidableEq, Repr

/-- The Default Program Store (R154). The array is kept as its programmed offsets in rising order, an unlisted offset reading
as the erased byte 0xFF. -/
structure ProgramStore where
  array : List Host.Cell
  load : LoadRecord
  programming : Option Programming
  deriving DecidableEq, Repr

/-- An accepted request (R170). -/
structure Request where
  cmd : Byte
  tag : Byte
  params : List Byte
  deriving DecidableEq, Repr

/-- A reply (R175). Its CRC-8 is a function of these fields (R172). -/
structure Reply where
  tag : Byte
  cmd : Byte
  result : Result
  payload : List Byte
  deriving DecidableEq, Repr

/-- The fields of a composed port status byte (R169). -/
structure PortStatus where
  replies : Nat
  freePlaces : Nat
  attn : Bool
  discard : Bool
  deriving DecidableEq, Repr

/-- The frame a reply read has latched: the NONE frame, or the head reply (R173). -/
inductive Latched where
  | noReply
  | head (r : Reply)
  deriving DecidableEq, Repr

/-- The transaction in progress (R168): the status byte composed at its start, and what a reply read has latched. -/
structure Transaction where
  status : PortStatus
  latched : Option Latched
  deriving DecidableEq, Repr

/-- The kinds of change item (R181). -/
inductive ChangeKind where
  | entry | channel | calendar | system
  deriving DecidableEq, Repr

/-- A change item (R181). -/
structure ChangeItem where
  kind : ChangeKind
  index : Nat
  reasons : Word
  deriving DecidableEq, Repr

/-- The Host Port: its queues (R174, R175), executor (R176), discard flag (R171), transaction (R168), the levels of CSN and
PRSTN, the change set in read order (R181) and the notice mask (R184). RDY and ATTN are functions of these. -/
structure HostPort where
  requests : List Request
  replies : List Reply
  executorBusy : Bool
  discard : Bool
  transaction : Option Transaction
  csnLow : Bool
  prstnLow : Bool
  changes : List ChangeItem
  mask : BitVec 4
  deriving DecidableEq, Repr

/-- The whole state of a KT16. `cycles` is crystal time in cycles since power-up, `osc` real time on the on-chip oscillator in
periods of 1/32768 s (log 2), and `freeIndex` counts the free values drawn (log 1). `pending` is the model's queue of commands
that wait. -/
structure State where
  pending : List Instr
  table : ScheduleTable
  calendar : ExceptionCalendar
  channels : Vector Channel 16
  freeCount : Nat
  engine : SwitchingEngine
  buttons : Vector Button 4
  light : LightMonitor
  time : TimeBase
  line : LineMonitor
  supply : SupplyController
  store : ProgramStore
  port : HostPort
  cycles : Nat
  osc : Nat
  freeIndex : Nat
  deriving DecidableEq, Repr

/-! ## Cold-start values

Each block's values after a cold start, as the rule of the block gives them. -/

/-- 2000-01-01, the first date of the calendar range (R122, R123). -/
def Date.first : Date := ⟨2000, 1, 1⟩

/-- 2199-12-31, the last date of the calendar range (R122). -/
def Date.last : Date := ⟨2199, 12, 31⟩

/-- Every slot FREE with generation 0; the ENDED order empty (R1). -/
def ScheduleTable.cold : ScheduleTable where
  slots := Vector.replicate 128 ⟨0, none⟩
  endedOrder := []

/-- No records; today's class NORMAL (R53, R59). -/
def ExceptionCalendar.cold : ExceptionCalendar := ⟨[], .normal⟩

/-- The cold-start configuration of a channel (R81). -/
def ChannelConfig.cold : ChannelConfig where
  kind := .unused
  rest := false
  align := true
  operateDelay := 0
  releaseDelay := 0
  pulseWidth := 2
  dwell := 2

/-- A channel after cold start: an empty list, target OFF, UNUSED, driven OFF, IDLE, no last completion, both pins low (R62,
R79, R81, R100). -/
def Channel.cold : Channel where
  claims := []
  target := false
  config := ChannelConfig.cold
  driven := .off
  switch := .idle
  lastCompletion := none
  pinA := false
  pinB := false

/-- A button after cold start, disabled and RELEASED (R103, R107), its input sampled at the entry to RESTORING; the level last sampled
is the pin's also after a power-up into BACKUP, where no sample is taken (log 5). -/
def Button.cold (pinLow : Bool) : Button where
  channels := 0
  ending := .after 120
  enabled := false
  lastOutcome := .nothing
  lastMinute := none
  press := .released
  pinLow := pinLow
  sampledLow := pinLow

/-- The Light Monitor after cold start (R112); `nextSample` is the instant of the first sample (R111). -/
def LightMonitor.cold (nextSample : Nat) : LightMonitor where
  state := .unknown
  confirm := 0
  side := .none
  faults := 0
  darkEnter := 120
  darkLeave := 200
  confirmCount := 60
  lastSample := none
  lastEvent := none
  nextSample := nextSample

/-- The Time Base after cold start (R123); the crystal state is as the detector finds the crystal. -/
def TimeBase.cold (crystalRunning : Bool) : TimeBase where
  time := ⟨Date.first, ⟨0, 0⟩, 0⟩
  elapsed := 0
  validity := .unset
  preference := .auto
  source := .crystal
  divisor := none
  crystalRunning := crystalRunning
  tableTickOwed := false
  claimTickOwed := false

/-- The Line Monitor after cold start (R133). -/
def LineMonitor.cold : LineMonitor where
  state := .absent
  counting := none
  agreement := 0
  verdict := none
  disagreement := 0
  confirmCount := 16
  measureStart := none
  lastCrossing := none
  lastPeriod := none
  absenceFrom := 0

/-- The Supply Controller after cold start (R141); `countdownDue` is the instant the countdown first falls (R147). -/
def SupplyController.cold (countdownDue : Nat) : SupplyController where
  state := .restoring
  restoreDelay := 10
  countdown := some 10
  signatureValid := true
  loadPending := true
  restoreKind := .cold
  backupCount := 0
  lastFailure := none
  lastReturn := none
  countdownDue := countdownDue
  stopped := false

/-- The load record after cold start, before the load that the entry to RESTORING starts (R154). -/
def LoadRecord.cold : LoadRecord where
  state := .none
  source := none
  phase := none
  next := none
  applied := 0
  rejected := 0
  firstRejection := none
  badReason := none
  header := none
  startedAt := 0

/-- The Host Port after cold start, but for the change set: empty queues, an IDLE executor, a clear discard flag, and a notice
mask of every kind (R146, R174, R175, R176, R184). The levels of CSN and PRSTN are the host's. -/
def HostPort.cold (csnLow prstnLow : Bool) (changes : List ChangeItem) : HostPort where
  requests := []
  replies := []
  executorBusy := false
  discard := false
  transaction := none
  csnLow := csnLow
  prstnLow := prstnLow
  changes := changes
  mask := 0xF

/-- The load record that a load with source RESTORE leaves on a store as delivered, every byte 0xFF: the header fails at its
marker (R154, R159). -/
def LoadRecord.erasedStore : LoadRecord :=
  { LoadRecord.cold with
    state := .storeBad
    source := some .restore
    badReason := some .marker }

/-- THE STATE AFTER RESET: a part as delivered, powered for the first time with VMAIN at 3.0 V or above, right after the
cold start that this makes (R143, R146). Every block has its cold-start values. The load that the cold start starts at the
same instant has found the store erased: the status is STORE_BAD with MARKER, load-pending is cleared, and LOAD_DONE has joined
COLD_START in the SYSTEM item (R149, R159; log 4). The crystal is RUNNING, CSN, PRSTN and the four button inputs are high
(log 5). -/
def State.reset : State where
  pending := []
  table := ScheduleTable.cold
  calendar := ExceptionCalendar.cold
  channels := Vector.replicate 16 Channel.cold
  freeCount := 192
  engine := ⟨[], 4, 1⟩
  buttons := Vector.replicate 4 (Button.cold false)
  light := LightMonitor.cold 32768
  time := TimeBase.cold true
  line := LineMonitor.cold
  supply := { SupplyController.cold 32768 with loadPending := false }
  store := ⟨[], LoadRecord.erasedStore, none⟩
  port := HostPort.cold false false [⟨.system, 0, 0x21⟩]
  cycles := 0
  osc := 0
  freeIndex := 0

end Sys2Proof.Machine
end

