-- ==== Sys2Proof/Machine/Dates.lean ====
section
/-! DEFINITION. The calendar of the Time Base (R122) and the crystal's durations (R124): leap years, weekdays, the order of
dates and calendar minutes, the next second, and milliseconds counted in crystal cycles. -/

namespace Sys2Proof.Machine

/-- The leap rule of the calendar range: divisible by 4, except 2100 (R122). -/
def isLeap (year : Nat) : Bool := year % 4 == 0 && year != 2100

/-- The length of a month (R122). -/
def monthLength (year month : Nat) : Nat :=
  if month == 2 then (if isLeap year then 29 else 28)
  else if month == 4 || month == 6 || month == 9 || month == 11 then 30
  else 31

/-- The longest length a month can have, in a leap year (R3, R48). -/
def longestMonth (month : Nat) : Nat := monthLength 2000 month

/-- A real date: one that exists and lies within 2000-01-01..2199-12-31 (R122). -/
def Date.isReal (d : Date) : Bool :=
  2000 ≤ d.year && d.year ≤ 2199 && 1 ≤ d.month && d.month ≤ 12 && 1 ≤ d.day && d.day ≤ monthLength d.year d.month

/-- A time of day has hour 0..23 and minute 0..59 (R3). -/
def TimeOfDay.isReal (t : TimeOfDay) : Bool := t.hour ≤ 23 && t.minute ≤ 59

/-- A number that orders dates as the calendar does. -/
def Date.key (d : Date) : Nat := (d.year * 13 + d.month) * 32 + d.day

/-- The minutes from 00:00 to a time of day. -/
def TimeOfDay.minutes (t : TimeOfDay) : Nat := t.hour * 60 + t.minute

/-- A number that orders calendar minutes as the calendar does (R38: instants are compared as calendar minutes). -/
def CalMinute.key (m : CalMinute) : Nat := m.date.key * 1440 + m.tod.minutes

/-- The calendar minute of a calendar time. -/
def CalTime.toMinute (t : CalTime) : CalMinute := ⟨t.date, t.tod⟩

/-- The days of a year before the first of a month. -/
def daysBeforeMonth (year month : Nat) : Nat :=
  ((List.range month).map fun m => if m == 0 then 0 else monthLength year m).sum

/-- The leap years of the range before a year. -/
def leapYearsBefore (year : Nat) : Nat := (year - 2000 + 3) / 4 - (if 2100 < year then 1 else 0)

/-- The days from 2000-01-01 to a date. -/
def Date.dayNumber (d : Date) : Nat :=
  (d.year - 2000) * 365 + leapYearsBefore d.year + daysBeforeMonth d.year d.month + (d.day - 1)

/-- The weekday of a date, 1 Monday to 7 Sunday: 2000-01-01 is a Saturday (R122). -/
def Date.weekday (d : Date) : Nat := (d.dayNumber + 5) % 7 + 1

/-- The place of a month-day among the 366 of a leap year (R49). -/
def MonthDay.ordinal (m : MonthDay) : Nat := daysBeforeMonth 2000 m.month + m.day

/-- The date after a date; after 2199-12-31 comes 2000-01-01 (R122). -/
def Date.next (d : Date) : Date :=
  if d.day < monthLength d.year d.month then ⟨d.year, d.month, d.day + 1⟩
  else if d.month < 12 then ⟨d.year, d.month + 1, 1⟩
  else if d.year < 2199 then ⟨d.year + 1, 1, 1⟩
  else Date.first

/-- The date before a date; none before 2000-01-01. -/
def Date.previous (d : Date) : Option Date :=
  if 1 < d.day then some ⟨d.year, d.month, d.day - 1⟩
  else if 1 < d.month then some ⟨d.year, d.month - 1, monthLength d.year (d.month - 1)⟩
  else if 2000 < d.year then some ⟨d.year - 1, 12, 31⟩
  else none

/-- The last calendar minute, 2199-12-31 23:59 (R38). -/
def CalMinute.last : CalMinute := ⟨Date.last, ⟨23, 59⟩⟩

/-- The first calendar minute strictly after `s` whose time of day is `t`; one that would fall after 2199-12-31 23:59 is held as
2199-12-31 23:59 (R38). -/
def CalMinute.firstAfter (s : CalMinute) (t : TimeOfDay) : CalMinute :=
  if s.tod.minutes < t.minutes then ⟨s.date, t⟩
  else if s.date == Date.last then CalMinute.last
  else ⟨s.date.next, t⟩

/-- Does the second after this one lie in a new minute (R128)? -/
def CalTime.rollsMinute (t : CalTime) : Bool := 59 ≤ t.second

/-- Does the second after this one wrap the calendar (R122)? -/
def CalTime.wraps (t : CalTime) : Bool :=
  59 ≤ t.second && 59 ≤ t.tod.minute && 23 ≤ t.tod.hour && t.date == Date.last

/-- The calendar time one second later (R122, R127). -/
def CalTime.nextSecond (t : CalTime) : CalTime :=
  if t.second < 59 then ⟨t.date, t.tod, t.second + 1⟩
  else if t.tod.minute < 59 then ⟨t.date, ⟨t.tod.hour, t.tod.minute + 1⟩, 0⟩
  else if t.tod.hour < 23 then ⟨t.date, ⟨t.tod.hour + 1, 0⟩, 0⟩
  else ⟨t.date.next, ⟨0, 0⟩, 0⟩

/-- A duration of `d` tenths of a millisecond in crystal cycles, rounded to the nearest whole cycle, a half up (R124). -/
def tenths (d : Nat) : Nat := (2 * d * 32768 + 10000) / 20000

/-- A duration of `d` milliseconds in crystal cycles (R124). -/
def millis (d : Nat) : Nat := tenths (10 * d)

/-- Half of `n` crystal cycles, `k` times over, rounded to the nearest whole cycle, a half up (R124, R137; log 6). -/
def halfPeriods (k n : Nat) : Nat := (k * n + 1) / 2

end Sys2Proof.Machine
end

