-- ==== Sys2Proof/Machine/Operands.lean ====
section
/-! DEFINITION. The byte layouts of Chapter 12: how the parameters of a command are read (R189, R191) and how the payload of
a reply is written (R190). A reader answers `none` for a field that is refused BAD_FIELD. -/

namespace Sys2Proof.Machine

/-! ## Plain fields -/

/-- A number in one byte. -/
def byteOf (n : Nat) : Byte := BitVec.ofNat 8 n

/-- A number in two bytes, most significant first. -/
def twoBytes (n : Nat) : List Byte := [byteOf (n / 256), byteOf n]

/-- A number of two bytes, most significant first. -/
def natOf (hi lo : Byte) : Nat := hi.toNat * 256 + lo.toNat

/-- `k` bytes of 0xFF: a field that has no value (R190). -/
def absent (k : Nat) : List Byte := List.replicate k 0xFF

/-- A field of `k` bytes that may be absent (R190). -/
def orAbsent {α : Type} (k : Nat) (write : α → List Byte) : Option α → List Byte
  | some a => write a
  | none => absent k

/-- A setting flag (Chapter 12, field formats). -/
def writeFlag (b : Bool) : List Byte := [if b then 1 else 0]

/-- Read a setting flag; an action, a rest state and an enabled value share its codes. -/
def readFlag (b : Byte) : Option Bool := if b == 0 then some false else if b == 1 then some true else none

/-- A channel set in two bytes, bit n being CHn. -/
def writeSet (w : Word) : List Byte := twoBytes w.toNat

/-- Read a channel set. -/
def readSet (hi lo : Byte) : Word := hi ++ lo

/-- The channels of a set, in ascending order. -/
def channelsOf (w : Word) : List Chan := (List.finRange 16).filter fun c => w.getLsbD c.val

/-- The set of the channels of a list. -/
def setOf (cs : List Chan) : Word := BitVec.ofNat 16 (cs.map fun c => 2 ^ c.val).sum

/-- The channel a byte names; 16..255 name none. -/
def readChannelNo (b : Byte) : Option Chan := if h : b.toNat < 16 then some ⟨b.toNat, h⟩ else none

/-- The button a byte names; 4..255 name none. -/
def readButtonNo (b : Byte) : Option ButtonNo := if h : b.toNat < 4 then some ⟨b.toNat, h⟩ else none

/-- The slot a byte names; 128..255 name none (R2). -/
def readSlotNo (b : Byte) : Option SlotNo := if h : b.toNat < 128 then some ⟨b.toNat, h⟩ else none

/-! ## Dates and times -/

/-- A date in three bytes, the year less 2000. -/
def writeDate (d : Date) : List Byte := [byteOf (d.year - 2000), byteOf d.month, byteOf d.day]

/-- Read a date, which must be a real one (R189). -/
def readDate (y m d : Byte) : Option Date :=
  let date : Date := ⟨2000 + y.toNat, m.toNat, d.toNat⟩
  if date.isReal then some date else none

/-- A month-day in three bytes, the first 0xFF. -/
def writeMonthDay (m : MonthDay) : List Byte := [0xFF, byteOf m.month, byteOf m.day]

/-- Read a month-day, which must exist in a leap year (R48, R189). -/
def readMonthDay (f m d : Byte) : Option MonthDay :=
  if f == 0xFF && 1 ≤ m.toNat && m.toNat ≤ 12 && 1 ≤ d.toNat && d.toNat ≤ longestMonth m.toNat then
    some ⟨m.toNat, d.toNat⟩
  else none

/-- A time of day in two bytes. -/
def writeTod (t : TimeOfDay) : List Byte := [byteOf t.hour, byteOf t.minute]

/-- Read a time of day. -/
def readTod (h m : Byte) : Option TimeOfDay :=
  let t : TimeOfDay := ⟨h.toNat, m.toNat⟩
  if t.isReal then some t else none

/-- A calendar minute in five bytes. -/
def writeMinute (m : CalMinute) : List Byte := writeDate m.date ++ writeTod m.tod

/-- A calendar time in seven bytes, its weekday computed (R189, R190). -/
def writeTime (t : CalTime) : List Byte :=
  writeMinute t.toMinute ++ [byteOf t.second, byteOf t.date.weekday]

/-! ## Codes of enumerated values -/

def Result.code : Result → Byte
  | .ok => 0x00 | .accepted => 0x01 | .nothing => 0x02 | .mismatch => 0x03
  | .unknownCommand => 0x10 | .badLength => 0x11 | .badField => 0x12 | .staleHandle => 0x13
  | .tableFull => 0x14 | .calendarFull => 0x15 | .overlap => 0x16 | .notFound => 0x17
  | .wrongState => 0x18 | .busy => 0x19 | .expiredAlready => 0x1A

def Driven.code : Driven → Byte
  | .off => 0 | .on => 1 | .unknown => 2

def EntryState.code : EntryState → Byte
  | .waiting => 1 | .armed => 2 | .active _ _ => 3 | .suspended => 4 | .ended _ _ => 5

def EndReason.code : EndReason → Byte
  | .spent => 0 | .expired => 1

def Origin.code : Origin → Byte
  | .host => 0 | .store => 1

def OverrideOrigin.code : OverrideOrigin → Byte
  | .host => 0 | .button b => byteOf (b.val + 1)

def OverrideEnding.code : OverrideEnding → Byte
  | .after _ => 0 | .untilNext => 1

/-- The minutes field of an override ending: 0 for UNTIL_NEXT. -/
def OverrideEnding.minutes : OverrideEnding → Nat
  | .after n => n | .untilNext => 0

def DayClass.code : DayClass → Nat
  | .normal => 0 | .x1 => 1 | .x2 => 2 | .x3 => 3 | .x4 => 4

/-- The day class of a code; 5 and above name none. -/
def DayClass.ofCode : Nat → Option DayClass
  | 0 => some .normal | 1 => some .x1 | 2 => some .x2 | 3 => some .x3 | 4 => some .x4 | _ => none

def ChannelKind.code : ChannelKind → Byte
  | .unused => 0 | .mono => 1 | .bi => 2

def ChannelKind.ofCode (b : Byte) : Option ChannelKind :=
  if b == 0 then some .unused else if b == 1 then some .mono else if b == 2 then some .bi else none

def SwitchState.code : SwitchState → Byte
  | .idle => 0 | .queued => 1 | .issued _ => 2 | .pulsing _ => 3

def PressState.code : PressState → Byte
  | .released => 0 | .debouncing _ => 1 | .pressed _ _ => 2 | .longDone _ => 3

def PressOutcome.code : PressOutcome → Byte
  | .nothing => 0 | .shortOn => 1 | .shortOff => 2 | .long => 3 | .blocked => 4 | .noAction => 5

def LightState.code : LightState → Byte
  | .unknown => 0 | .day => 1 | .dusking => 2 | .night => 3 | .dawning => 4 | .fault => 5

def LightSide.code : LightSide → Byte
  | .none => 0 | .dark => 1 | .bright => 2

def LightEvent.code : LightEvent → Byte
  | .dusk => 0 | .dawn => 1

def Validity.code : Validity → Byte
  | .unset => 0 | .valid => 1 | .doubtful => 2

def Preference.code : Preference → Byte
  | .auto => 0 | .crystal => 1

def TimeSource.code : TimeSource → Byte
  | .crystal => 0 | .line => 1

def LineState.code : LineState → Byte
  | .absent => 0 | .acquiring => 1 | .locked => 2

/-- The frequency of a class of mains cycle, 50 or 60 Hz (R132): as a verdict, the line divisor N (R126). -/
def LineClass.hertz : LineClass → Nat
  | .fifty => 50 | .sixty => 60

def SupplyState.code : SupplyState → Byte
  | .run => 0 | .backup => 1 | .restoring => 2

def RestoreKind.code : RestoreKind → Byte
  | .warm => 0 | .cold => 1

def LoadState.code : LoadState → Byte
  | .none => 0 | .running => 1 | .done => 2 | .storeBad => 3 | .interrupted => 4

def LoadSource.code : LoadSource → Byte
  | .restore => 0 | .host => 1

def LoadPhase.code : LoadPhase → Byte
  | .validate => 0 | .retire => 1 | .apply => 2

def BadReason.code : BadReason → Byte
  | .marker => 0 | .format => 1 | .length => 2 | .crc => 3 | .chain => 4

def ChangeKind.code : ChangeKind → Nat
  | .entry => 0 | .channel => 1 | .calendar => 2 | .system => 3

/-! ## Overrides, channels and buttons -/

/-- Read an override ending and its minutes: AFTER with 1..1440, or UNTIL_NEXT with 0 (R68, log 8). -/
def readEnding (e hi lo : Byte) : Option OverrideEnding :=
  let n := natOf hi lo
  if e == 0 then (if 1 ≤ n && n ≤ Config.capMinutes then some (.after n) else none)
  else if e == 1 then (if n == 0 then some .untilNext else none)
  else none

/-- An override ending with its minutes. -/
def writeEnding (e : OverrideEnding) : List Byte := e.code :: twoBytes e.minutes

/-- Read the seven settings of a channel (R81, R83). -/
def readConfig (kind rest align operate release pulse dwellHi dwellLo : Byte) : Option ChannelConfig := do
  let k ← ChannelKind.ofCode kind
  let r ← readFlag rest
  let a ← readFlag align
  let dwell := natOf dwellHi dwellLo
  if operate.toNat ≤ 120 && release.toNat ≤ 120 && 1 ≤ pulse.toNat && pulse.toNat ≤ 8 && dwell ≤ 600 then
    some ⟨k, r, a, operate.toNat, release.toNat, pulse.toNat, dwell⟩
  else none

/-- The seven settings of a channel, in eight bytes (Chapter 12). -/
def writeConfig (c : ChannelConfig) : List Byte :=
  [c.kind.code, if c.rest then 1 else 0, if c.align then 1 else 0, byteOf c.operateDelay, byteOf c.releaseDelay,
    byteOf c.pulseWidth] ++ twoBytes c.dwell

/-! ## Claim records -/

/-- The priority of a claim: hold 13, override 12, else its entry's (R60). -/
def Claim.priority (c : Claim) : Nat :=
  match c.kind with
  | .hold => 13
  | .override _ _ _ => 12
  | .schedule _ _ p => p

/-- The kind of a claim as its record codes it. -/
def ClaimKind.code : ClaimKind → Nat
  | .schedule _ _ _ => 0 | .override _ _ _ => 1 | .hold => 2

/-- A claim record, 12 bytes (Chapter 12). -/
def writeClaim (c : Claim) : List Byte :=
  byteOf (c.kind.code * 64 + (if c.action then 16 else 0) + c.priority) :: writeMinute c.start ++
    match c.kind with
    | .schedule slot gen _ => [byteOf slot.val, gen, 0, 0, 0, 0]
    | .override origin ending cap => [origin.code, ending.code] ++ twoBytes ending.minutes ++ twoBytes cap
    | .hold => [0, 0, 0, 0, 0, 0]

/-! ## Exception records -/

/-- Read an exception record of seven bytes, without its origin: the conditions of R48 that need no state. -/
def readException (head f1 f2 f3 l1 l2 l3 : Byte) : Option (ExceptionSpan × DayClass) := do
  let cls ← DayClass.ofCode (head.toNat % 8)
  if cls == .normal || head.toNat / 8 % 16 != 0 then none
  else if head.getLsbD 7 then do
    let first ← readMonthDay f1 f2 f3
    let last ← readMonthDay l1 l2 l3
    some (.annual first last, cls)
  else do
    let first ← readDate f1 f2 f3
    let last ← readDate l1 l2 l3
    if first.key ≤ last.key && last.dayNumber < first.dayNumber + 366 then some (.dated first last, cls) else none

/-- The two days of an exception record, in six bytes. -/
def writeSpan : ExceptionSpan → List Byte
  | .dated first last => writeDate first ++ writeDate last
  | .annual first last => writeMonthDay first ++ writeMonthDay last

/-- Is the record an annual one? -/
def ExceptionSpan.isAnnual : ExceptionSpan → Bool
  | .dated _ _ => false | .annual _ _ => true

/-- An exception record, seven bytes (Chapter 12). -/
def writeException (r : ExceptionRecord) : List Byte :=
  byteOf ((if r.span.isAnnual then 128 else 0) + (if r.origin == .store then 64 else 0) + r.cls.code) :: writeSpan r.span

/-! ## The entry body (R191) -/

/-- The bytes of the optional parts that a presence byte declares. -/
def optionalBytes (presence : Byte) : Nat :=
  (if presence.getLsbD 0 then 3 else 0) + (if presence.getLsbD 1 then 3 else 0) +
  (if presence.getLsbD 2 then 2 else 0) + (if presence.getLsbD 3 then 2 else 0) +
  (if presence.getLsbD 4 then 2 else 0) + (if presence.getLsbD 5 then 2 else 0) +
  (if presence.getLsbD 6 then 2 else 0)

/-- Has a body at least 14 bytes, and as many as its presence byte declares (R191)? -/
def bodyLengthOk (body : List Byte) : Bool :=
  14 ≤ body.length && body.length == 14 + optionalBytes (body.getD 13 0)

/-- Take an optional date off the front of the optional parts. -/
def takeDate (present : Bool) (rest : List Byte) : Option (Option Date × List Byte) :=
  if present then
    match rest with
    | y :: m :: d :: more => (readDate y m d).map fun date => (some date, more)
    | _ => none
  else some (none, rest)

/-- Take an optional time of day off the front of the optional parts. -/
def takeTod (present : Bool) (rest : List Byte) : Option (Option TimeOfDay × List Byte) :=
  if present then
    match rest with
    | h :: m :: more => (readTod h m).map fun t => (some t, more)
    | _ => none
  else some (none, rest)

/-- Take an optional occurrence count, 1..65535, off the front of the optional parts (R3). -/
def takeCount (present : Bool) (rest : List Byte) : Option (Option Nat × List Byte) :=
  if present then
    match rest with
    | hi :: lo :: more => if natOf hi lo == 0 then none else some (some (natOf hi lo), more)
    | _ => none
  else some (none, rest)

/-- Read a part of a pattern that may be ANY, 0xFF, or lie in `lo..hi` (R3). -/
def readAny (lo hi : Nat) (b : Byte) : Option (Option Nat) :=
  if b == 0xFF then some none
  else if lo ≤ b.toNat && b.toNat ≤ hi then some (some b.toNat)
  else none

/-- Can a pattern of this day of the month and this month match on some date? A fixed day beyond the longest length of its
fixed month is refused (R3). -/
def patternDayOk : Option Nat → Option Nat → Bool
  | some day, some month => day ≤ longestMonth month
  | _, _ => true

/-- Read a start trigger with its four pattern bytes, all 0 for a light trigger (R3, R191). -/
def readTrigger (code minute hour day month : Byte) : Option StartTrigger :=
  if code == 0 then do
    let h ← readAny 0 23 hour
    let d ← readAny 1 31 day
    let m ← readAny 1 12 month
    if minute.toNat ≤ 59 && patternDayOk d m then some (.atTime minute.toNat h d m) else none
  else if minute == 0 && hour == 0 && day == 0 && month == 0 then
    (if code == 1 then some .atDusk else if code == 2 then some .atDawn else none)
  else none

/-- Read an end kind with its two bytes (R3, R191). -/
def readEnd (code hi lo : Byte) : Option EntryEnd :=
  if code == 0 then
    (if 1 ≤ natOf hi lo && natOf hi lo ≤ Config.capMinutes then some (.after (natOf hi lo)) else none)
  else if code == 1 then (readTod hi lo).map .atTime
  else if hi == 0 && lo == 0 then
    (if code == 2 then some .onLightDay else if code == 3 then some .onLightNight else none)
  else none

/-- Is the trigger an AT_TIME one? -/
def StartTrigger.isTime : StartTrigger → Bool
  | .atTime _ _ _ _ => true | _ => false

/-- Is the end an AT one? -/
def EntryEnd.isTime : EntryEnd → Bool
  | .atTime _ => true | _ => false

/-- Is the end an ON_LIGHT one? -/
def EntryEnd.isLight : EntryEnd → Bool
  | .onLightDay => true | .onLightNight => true | _ => false

/-- The conditions of R3 that tie the fields of a body together. -/
def bodyConsistent (b : EntryBody) : Bool :=
  b.channels != 0 && b.priority ≤ 11 && b.classes != 0 &&
  (!b.trigger.isTime || (b.windowEarliest.isNone && b.windowLatest.isNone && b.startFallback.isNone)) &&
  (b.ending.isLight || b.endFallback.isNone) &&
  (match b.validFrom, b.validUntil with
    | some f, some u => f.key ≤ u.key
    | _, _ => true) &&
  (!b.catchUp || (b.trigger.isTime && b.ending.isTime))

/-- Read the fields of an entry body whose length is right; `none` is BAD_FIELD (R3, R191). -/
def readBody (body : List Byte) : Option EntryBody :=
  match body with
  | c1 :: c0 :: head :: trig :: p0 :: p1 :: p2 :: p3 :: weekdays :: classes :: ek :: e1 :: e0 :: presence :: rest => do
    let trigger ← readTrigger trig p0 p1 p2 p3
    let ending ← readEnd ek e1 e0
    let (validFrom, rest) ← takeDate (presence.getLsbD 0) rest
    let (validUntil, rest) ← takeDate (presence.getLsbD 1) rest
    let (count, rest) ← takeCount (presence.getLsbD 2) rest
    let (earliest, rest) ← takeTod (presence.getLsbD 3) rest
    let (latest, rest) ← takeTod (presence.getLsbD 4) rest
    let (startFallback, rest) ← takeTod (presence.getLsbD 5) rest
    let (endFallback, _) ← takeTod (presence.getLsbD 6) rest
    let b : EntryBody :=
      { channels := readSet c1 c0, action := head.getLsbD 7, priority := head.toNat % 16, trigger := trigger,
        windowEarliest := earliest, windowLatest := latest, startFallback := startFallback,
        weekdays := weekdays, classes := classes, ending := ending, endFallback := endFallback,
        validFrom := validFrom, validUntil := validUntil, count := count, catchUp := head.getLsbD 6 }
    if !presence.getLsbD 7 && head.toNat / 16 % 4 == 0 && weekdays.toNat < 128 && classes.toNat < 32 && bodyConsistent b then
      some b
    else none
  | _ => none

/-- A part of a pattern, ANY being 0xFF. -/
def writeAny : Option Nat → Byte
  | some n => byteOf n
  | none => 0xFF

/-- A start trigger with its pattern bytes. -/
def writeTrigger : StartTrigger → List Byte
  | .atTime minute hour day month => [0, byteOf minute, writeAny hour, writeAny day, writeAny month]
  | .atDusk => [1, 0, 0, 0, 0]
  | .atDawn => [2, 0, 0, 0, 0]

/-- An end kind with its two bytes. -/
def writeEnd : EntryEnd → List Byte
  | .after n => 0 :: twoBytes n
  | .atTime t => 1 :: writeTod t
  | .onLightDay => [2, 0, 0]
  | .onLightNight => [3, 0, 0]

/-- The presence byte of a body. -/
def presenceOf (b : EntryBody) : Byte :=
  byteOf ((if b.validFrom.isSome then 1 else 0) + (if b.validUntil.isSome then 2 else 0) +
    (if b.count.isSome then 4 else 0) + (if b.windowEarliest.isSome then 8 else 0) +
    (if b.windowLatest.isSome then 16 else 0) + (if b.startFallback.isSome then 32 else 0) +
    (if b.endFallback.isSome then 64 else 0))

/-- An entry body, 14 bytes and its optional parts (Chapter 12). -/
def writeBody (b : EntryBody) : List Byte :=
  writeSet b.channels ++
  [byteOf ((if b.action then 128 else 0) + (if b.catchUp then 64 else 0) + b.priority)] ++
  writeTrigger b.trigger ++ [b.weekdays, b.classes] ++ writeEnd b.ending ++ [presenceOf b] ++
  orAbsent 0 writeDate b.validFrom ++ orAbsent 0 writeDate b.validUntil ++ orAbsent 0 twoBytes b.count ++
  orAbsent 0 writeTod b.windowEarliest ++ orAbsent 0 writeTod b.windowLatest ++
  orAbsent 0 writeTod b.startFallback ++ orAbsent 0 writeTod b.endFallback

/-- The claim state of an entry that is ACTIVE (R191). -/
def EntryState.claim? : EntryState → Option ClaimState
  | .active c _ => some c
  | _ => none

/-- The end reason of an entry that is ENDED. -/
def EntryState.endReason? : EntryState → Option EndReason
  | .ended r _ => some r
  | _ => none

/-- The ended-at of an entry that is ENDED. -/
def EntryState.endedAt? : EntryState → Option CalMinute
  | .ended _ m => some m
  | _ => none

/-- Is the entry ACTIVE with its expiry mark set (R8)? -/
def EntryState.isMarked : EntryState → Bool
  | .active _ m => m
  | _ => false

/-- The whole record of an entry as READ_ENTRY returns it, behind the handle (R16, R191). The expiry mark is absent unless it
is set (log 9). -/
def writeRecord (e : Entry) : List Byte :=
  [e.origin.code, e.state.code] ++ orAbsent 1 (fun r => [EndReason.code r]) e.state.endReason? ++ writeBody e.body ++
  twoBytes e.starts ++ [byteOf e.missed] ++ orAbsent 3 writeDate e.lastStart ++ [if e.state.isMarked then 1 else 0xFF] ++
  orAbsent 5 writeMinute (e.state.claim?.map (·.start)) ++
  orAbsent 5 writeMinute (e.state.claim?.bind (·.endInstant)) ++
  orAbsent 2 twoBytes (e.state.claim?.bind (·.remaining)) ++
  orAbsent 5 writeMinute (e.state.claim?.bind (·.fallbackInstant)) ++
  orAbsent 2 twoBytes (e.state.claim?.map (·.cap)) ++
  orAbsent 5 writeMinute e.state.endedAt?

/-! ## The CRCs -/

/-- One bit of a CRC of `w` bits, most significant bit first: shift left, and if a 1 falls out, add the polynomial. -/
def crcShift {w : Nat} (poly crc : BitVec w) : BitVec w :=
  if crc.msb then (crc <<< 1) ^^^ poly else crc <<< 1

/-- One byte of a CRC: eight shifts. -/
def crcEight {w : Nat} (poly crc : BitVec w) : BitVec w := (crcShift poly)^[8] crc

/-- The CRC-8 of a frame: polynomial 0x07, start 0xFF, no reflection, no inversion (R172). -/
def crc8 (bytes : List Byte) : Byte :=
  bytes.foldl (fun crc b => crcEight 0x07 (crc ^^^ b)) 0xFF

/-- The CRC-16 of the store: polynomial 0x1021, start 0xFFFF, no reflection, no inversion (R159). -/
def crc16 (bytes : List Byte) : Word :=
  bytes.foldl (fun crc b => crcEight 0x1021 (crc ^^^ ((b.setWidth 16 : Word) <<< (8 : Nat)))) 0xFFFF

end Sys2Proof.Machine
end

