-- ==== Sys2Proof/Machine/Flags.lean ====
section
/-! DEFINITION. What the part raises for the host: the change set (R181, R182), the lines RDY and ATTN (R175, R184), and the
port status byte (R169). -/

namespace Sys2Proof.Machine

/-! ## Replacing one block of the state -/

def State.setTable (s : State) (x : ScheduleTable) : State := { s with table := x }
def State.setCalendar (s : State) (x : ExceptionCalendar) : State := { s with calendar := x }
def State.setChannels (s : State) (x : Vector Channel 16) : State := { s with channels := x }
def State.setFreeCount (s : State) (x : Nat) : State := { s with freeCount := x }
def State.setEngine (s : State) (x : SwitchingEngine) : State := { s with engine := x }
def State.setButtons (s : State) (x : Vector Button 4) : State := { s with buttons := x }
def State.setLight (s : State) (x : LightMonitor) : State := { s with light := x }
def State.setTimeBase (s : State) (x : TimeBase) : State := { s with time := x }
def State.setLine (s : State) (x : LineMonitor) : State := { s with line := x }
def State.setSupply (s : State) (x : SupplyController) : State := { s with supply := x }
def State.setStore (s : State) (x : ProgramStore) : State := { s with store := x }
def State.setPort (s : State) (x : HostPort) : State := { s with port := x }
def State.setPending (s : State) (x : List Instr) : State := { s with pending := x }
def State.setClocks (s : State) (cycles osc : Nat) : State := { s with cycles := cycles, osc := osc }
def State.setFreeIndex (s : State) (x : Nat) : State := { s with freeIndex := x }

/-! ## Reasons (R181)

Each reason's number is its place in the change set's table, and so its bit in the reason set (Chapter 12). -/

/-- The reasons of an ENTRY item. -/
inductive EntryReason where
  | created | loaded | started | claimEnded | spent | expired | missed | reclaimed | retired | modified
  deriving DecidableEq, Repr

/-- The reasons of a CHANNEL item. -/
inductive ChannelReason where
  | targetChanged | overrideEnded | drivenChanged | holdBlocked
  deriving DecidableEq, Repr

/-- The reasons of the CALENDAR item. -/
inductive CalendarReason where
  | changed | lapsed
  deriving DecidableEq, Repr

/-- The reasons of the SYSTEM item. -/
inductive SystemReason where
  | coldStart | supply | timeValidity | line | light | loadDone
  deriving DecidableEq, Repr

def EntryReason.bit : EntryReason → Word
  | .created => 0x001 | .loaded => 0x002 | .started => 0x004 | .claimEnded => 0x008 | .spent => 0x010
  | .expired => 0x020 | .missed => 0x040 | .reclaimed => 0x080 | .retired => 0x100 | .modified => 0x200

def ChannelReason.bit : ChannelReason → Word
  | .targetChanged => 1 | .overrideEnded => 2 | .drivenChanged => 4 | .holdBlocked => 8

def CalendarReason.bit : CalendarReason → Word
  | .changed => 1 | .lapsed => 2

def SystemReason.bit : SystemReason → Word
  | .coldStart => 1 | .supply => 2 | .timeValidity => 4 | .line => 8 | .light => 16 | .loadDone => 32

/-! ## The change set -/

/-- Does the key of one item come before another's in read order: kind first, then index (R183)? -/
def readBefore (k₁ : ChangeKind) (i₁ : Nat) (k₂ : ChangeKind) (i₂ : Nat) : Bool :=
  k₁.code < k₂.code || (k₁.code == k₂.code && i₁ < i₂)

/-- Add reasons to the change set, which is kept in read order: they join the item of that kind and index if one is held, and
make a new item if none is (R182). -/
def addReasons (kind : ChangeKind) (index : Nat) (reasons : Word) : List ChangeItem → List ChangeItem
  | [] => [⟨kind, index, reasons⟩]
  | item :: items =>
    if readBefore kind index item.kind item.index then ⟨kind, index, reasons⟩ :: item :: items
    else if item.kind = kind ∧ item.index = index then ⟨kind, index, item.reasons ||| reasons⟩ :: items
    else item :: addReasons kind index reasons items

/-- Add reasons to the change set of the port. -/
def State.raise (s : State) (kind : ChangeKind) (index : Nat) (reasons : Word) : State :=
  s.setPort { s.port with changes := addReasons kind index reasons s.port.changes }

/-- Raise a reason on the ENTRY item of a slot. -/
def State.raiseEntry (s : State) (i : SlotNo) (r : EntryReason) : State := s.raise .entry i.val r.bit

/-- Raise a reason on the CHANNEL item of a channel. -/
def State.raiseChannel (s : State) (c : Chan) (r : ChannelReason) : State := s.raise .channel c.val r.bit

/-- Raise a reason on the CALENDAR item. -/
def State.raiseCalendar (s : State) (r : CalendarReason) : State := s.raise .calendar 0 r.bit

/-- Raise a reason on the SYSTEM item. -/
def State.raiseSystem (s : State) (r : SystemReason) : State := s.raise .system 0 r.bit

/-- The items of one kind held (R185). -/
def countKind (k : ChangeKind) (items : List ChangeItem) : Nat := (items.filter fun i => i.kind == k).length

/-! ## The lines and the status byte -/

/-- Is the port active: the supply RUN or RESTORING, and PRSTN high (R168, R176)? -/
def State.portActive (s : State) : Bool := s.supply.state != .backup && !s.port.prstnLow

/-- ATTN: asserted while the change set holds an item whose kind is in the notice mask, but deasserted in BACKUP (R184). -/
def State.attn (s : State) : Bool :=
  s.supply.state != .backup && s.port.changes.any fun i => s.port.mask.getLsbD i.kind.code

/-- RDY: asserted while the reply queue holds a reply (R175). -/
def State.rdy (s : State) : Bool := !s.port.replies.isEmpty

/-- The fields of the status byte as they stand (R169). -/
def State.portStatus (s : State) : PortStatus where
  replies := s.port.replies.length
  freePlaces := Config.queuePlaces - s.port.requests.length
  attn := s.attn
  discard := s.port.discard

/-- The status byte (Chapter 12). -/
def PortStatus.byte (p : PortStatus) : Byte :=
  byteOf (p.replies * 32 + p.freePlaces * 4 + (if p.attn then 2 else 0) + (if p.discard then 1 else 0))

end Sys2Proof.Machine
end

