-- ==== Sys2Proof/Machine/Ops.lean ====
section
/-! DEFINITION. The operations that the commands share: the passing of time, the records of slots, channels and buttons, claim
lists and targets (Chapter 4), what a target change does at the Switching Engine (R88), and the bytes of the store (R155). -/

namespace Sys2Proof.Machine

/-! ## Time -/

/-- Let `dt` periods of 1/32768 s pass. The on-chip oscillator counts them always. The crystal counts them while it is RUNNING,
and on the crystal source so does the elapsed count of the second in progress (R124, R127). While the retained domain is
stopped nothing counts (R143). -/
def State.elapse (s : State) (dt : Nat) : State :=
  if s.supply.stopped then s
  else if s.time.crystalRunning then
    let s := s.setClocks (s.cycles + dt) (s.osc + dt)
    if s.time.source = .crystal then s.setTimeBase { s.time with elapsed := s.time.elapsed + dt } else s
  else s.setClocks s.cycles (s.osc + dt)

/-- The calendar minute of now, as the Time Base holds it in any validity. -/
def State.now (s : State) : CalMinute := s.time.time.toMinute

/-- Today: the date part of now. -/
def State.today (s : State) : Date := s.time.time.date

/-- Is time VALID? -/
def State.timeValid (s : State) : Bool := s.time.validity == .valid

/-- Is a load of the default program store running (R163)? -/
def State.loadRunning (s : State) : Bool := s.store.load.state == .running

/-! ## Records by number -/

/-- The channel of a number. -/
def State.chan (s : State) (c : Chan) : Channel := s.channels[c]

/-- Replace a channel. -/
def State.setChan (s : State) (c : Chan) (x : Channel) : State := s.setChannels (s.channels.set c x)

/-- The slot of a number. -/
def State.slot (s : State) (i : SlotNo) : Slot := s.table.slots[i]

/-- Replace a slot. -/
def State.setSlot (s : State) (i : SlotNo) (x : Slot) : State :=
  s.setTable { s.table with slots := s.table.slots.set i x }

/-- Replace the entry of a slot, keeping the generation. -/
def State.setEntry (s : State) (i : SlotNo) (e : Entry) : State :=
  s.setSlot i { s.slot i with entry := some e }

/-- The button of a number. -/
def State.button (s : State) (b : ButtonNo) : Button := s.buttons[b]

/-- Replace a button. -/
def State.setButton (s : State) (b : ButtonNo) (x : Button) : State := s.setButtons (s.buttons.set b x)

/-- Every channel, ascending. -/
def allChannels : List Chan := List.finRange 16

/-- Every slot, ascending. -/
def allSlots : List SlotNo := List.finRange 128

/-- Every button, ascending. -/
def allButtons : List ButtonNo := List.finRange 4

/-- Do something for each of a list in turn. -/
def State.forEach {α : Type} (s : State) (l : List α) (f : State → α → State) : State := l.foldl f s

/-! ## Claim lists (R60, R61) -/

/-- The slot by which claims of equal priority and start are ordered. -/
def Claim.slotKey (c : Claim) : Nat :=
  match c.kind with
  | .schedule slot _ _ => slot.val
  | _ => 0

/-- The order of a claim list: priority from highest, then start instant from latest, then ascending slot (R61). -/
def Claim.before (a b : Claim) : Bool :=
  b.priority < a.priority ||
  (a.priority == b.priority && (b.start.key < a.start.key || (a.start.key == b.start.key && a.slotKey < b.slotKey)))

/-- Put a claim into a list at the place its keys give it (R61). -/
def insertClaim (c : Claim) : List Claim → List Claim
  | [] => [c]
  | x :: xs => if c.before x then c :: x :: xs else x :: insertClaim c xs

/-- Is this a hold? -/
def Claim.isHold (c : Claim) : Bool := match c.kind with | .hold => true | _ => false

/-- Is this an override? -/
def Claim.isOverride (c : Claim) : Bool := match c.kind with | .override _ _ _ => true | _ => false

/-- Is this an override that ends at the next schedule change (R70)? -/
def Claim.isUntilNext (c : Claim) : Bool := match c.kind with | .override _ .untilNext _ => true | _ => false

/-- Is this the schedule claim of the entry in a slot? -/
def Claim.isOf (i : SlotNo) (c : Claim) : Bool := match c.kind with | .schedule j _ _ => j == i | _ => false

/-- Is the channel held (R71)? -/
def State.held (s : State) (c : Chan) : Bool := (s.chan c).claims.any Claim.isHold

/-- Replace the claim list of a channel. -/
def State.setClaims (s : State) (c : Chan) (l : List Claim) : State := s.setChan c { s.chan c with claims := l }

/-- The target a claim list and a rest state give (R62). -/
def targetOf (claims : List Claim) (rest : Bool) : Bool :=
  match claims with
  | [] => rest
  | c :: _ => c.action

/-! ## Target changes at the Switching Engine (R87, R88) -/

/-- A driven state that agrees with a target. -/
def Driven.ofTarget (t : Bool) : Driven := if t then .on else .off

/-- Set the switch state of a channel. -/
def State.setSwitch (s : State) (c : Chan) (x : SwitchState) : State := s.setChan c { s.chan c with switch := x }

/-- Place a channel at the tail of the switch queue (R87). -/
def State.enqueue (s : State) (c : Chan) : State :=
  (s.setSwitch c .queued).setEngine { s.engine with queue := s.engine.queue ++ [c] }

/-- Remove a channel's request from the queue; the channel becomes IDLE and the others keep their order (R87, R88). -/
def State.dequeue (s : State) (c : Chan) : State :=
  (s.setSwitch c .idle).setEngine { s.engine with queue := s.engine.queue.filter (· != c) }

/-- A target change reaches the Switching Engine (R88). The request of a QUEUED channel is judged in any supply state, the
queue being empty outside RUN (R87). -/
def State.targetArrives (s : State) (c : Chan) (target : Bool) : State :=
  let ch := s.chan c
  if ch.config.kind = .unused then s
  else
    match ch.switch with
    | .idle => if s.supply.state = .run ∧ ch.driven ≠ Driven.ofTarget target then s.enqueue c else s
    | .queued => if ch.driven = Driven.ofTarget target then s.dequeue c else s
    | .issued _ => s
    | .pulsing _ => s

/-- The end of an operation, at one channel: compute the target afresh; if it differs from the one held, store it, add
TARGET_CHANGED, and hand it to the Switching Engine (R62, R63). -/
def State.retarget (s : State) (c : Chan) : State :=
  let ch := s.chan c
  let t := targetOf ch.claims ch.config.rest
  if t = ch.target then s
  else ((s.setChan c { ch with target := t }).raiseChannel c .targetChanged).targetArrives c t

/-- The end of an operation on several channels, in ascending order (R63). -/
def State.retargetAll (s : State) (cs : List Chan) : State := s.forEach cs State.retarget

/-- The channels of a list whose target differs between two states: what OVERRIDE and HOLD reply (R73, R75). -/
def changedTargets (before after : State) (cs : List Chan) : Word :=
  setOf (cs.filter fun c => (before.chan c).target != (after.chan c).target)

/-! ## Overrides and holds on one channel -/

/-- Remove the override of a channel, if it holds one, with OVERRIDE_ENDED (R68, R74). The target is left to the end of the
operation. -/
def State.dropOverride (s : State) (c : Chan) : State :=
  if (s.chan c).claims.any Claim.isOverride then
    (s.setClaims c ((s.chan c).claims.filter fun x => !x.isOverride)).raiseChannel c .overrideEnded
  else s

/-- End an UNTIL_NEXT override of a channel, as an addition or removal of a schedule claim does (R70). -/
def State.endUntilNext (s : State) (c : Chan) : State :=
  if (s.chan c).claims.any Claim.isUntilNext then s.dropOverride c else s

/-- Place an override on a channel, replacing one it holds (R68). The target is left to the end of the operation. -/
def State.putOverride (s : State) (c : Chan) (action : Bool) (origin : OverrideOrigin) (ending : OverrideEnding) : State :=
  let s := s.dropOverride c
  s.setClaims c (insertClaim ⟨.override origin ending Config.capMinutes, action, s.now⟩ (s.chan c).claims)

/-- Place a hold on a channel, or replace the action and start instant of the one it holds (R75). -/
def State.putHold (s : State) (c : Chan) (action : Bool) : State :=
  s.setClaims c (insertClaim ⟨.hold, action, s.now⟩ ((s.chan c).claims.filter fun x => !x.isHold))

/-- Remove the hold of a channel, if it holds one (R76). -/
def State.dropHold (s : State) (c : Chan) : State :=
  s.setClaims c ((s.chan c).claims.filter fun x => !x.isHold)

/-! ## Schedule claims (R65 to R67) -/

/-- The number of channels in a set. -/
def setSize (w : Word) : Nat := (channelsOf w).length

/-- Place the claims of an entry that starts: one on each channel of its set, each ending an UNTIL_NEXT override there, drawing
as many pool records (R64, R65, R70). The caller has found the free count large enough. -/
def State.placeClaims (s : State) (i : SlotNo) (b : EntryBody) (start : CalMinute) : State :=
  let gen := (s.slot i).generation
  let s := s.setFreeCount (s.freeCount - setSize b.channels)
  let s := s.forEach (channelsOf b.channels) fun s c =>
    (s.setClaims c (insertClaim ⟨.schedule i gen b.priority, b.action, start⟩ (s.chan c).claims)).endUntilNext c
  s.retargetAll (channelsOf b.channels)

/-- Renew the claims of an entry that restarts: each takes the new start instant and the place it gives (R66). -/
def State.renewClaims (s : State) (i : SlotNo) (b : EntryBody) (start : CalMinute) : State :=
  let s := s.forEach (channelsOf b.channels) fun s c =>
    let claims := (s.chan c).claims
    let kept := claims.filter fun x => !x.isOf i
    s.setClaims c ((claims.filter (Claim.isOf i)).foldl (fun l x => insertClaim { x with start := start } l) kept)
  s.retargetAll (channelsOf b.channels)

/-- Take the claims of an ACTIVE entry off every channel of its set, each removal ending an UNTIL_NEXT override there, and
return its pool records (R64, R67, R70). The targets are left to the end of the operation. -/
def State.takeClaims (s : State) (i : SlotNo) (b : EntryBody) : State :=
  let s := s.setFreeCount (s.freeCount + setSize b.channels)
  s.forEach (channelsOf b.channels) fun s c =>
    if (s.chan c).claims.any (Claim.isOf i) then
      (s.setClaims c ((s.chan c).claims.filter fun x => !x.isOf i)).endUntilNext c
    else s

/-- Remove the claims of an ACTIVE entry as one operation (R67). -/
def State.removeClaims (s : State) (i : SlotNo) (b : EntryBody) : State :=
  (s.takeClaims i b).retargetAll (channelsOf b.channels)

/-! ## The store's array (R154, R155) -/

/-- The byte of the array at an offset: an unlisted offset reads as erased (R154). -/
def readCell (array : List Host.Cell) (offset : Nat) : Byte :=
  match array with
  | [] => Config.erasedByte
  | (a, b) :: rest => if a = offset then b else readCell rest offset

/-- Store a byte at an offset, keeping the list in rising order without erased entries. -/
def writeCell (offset : Nat) (b : Byte) : List Host.Cell → List Host.Cell
  | [] => if b = Config.erasedByte then [] else [(offset, b)]
  | (a, x) :: rest =>
    if a < offset then (a, x) :: writeCell offset b rest
    else if a = offset then (if b = Config.erasedByte then rest else (offset, b) :: rest)
    else if b = Config.erasedByte then (a, x) :: rest
    else (offset, b) :: (a, x) :: rest

/-- Program a byte: its value afterward is the old value ANDed with the new (R155). -/
def programCell (array : List Host.Cell) (offset : Nat) (b : Byte) : List Host.Cell :=
  writeCell offset (readCell array offset &&& b) array

/-- The bytes of the array from an offset. -/
def readCells (array : List Host.Cell) (offset count : Nat) : List Byte :=
  (List.range count).map fun k => readCell array (offset + k)

/-- The array keeps its form: offsets strictly rising and inside the array, and no entry equal to the erased byte. -/
def arrayForm (array : List Host.Cell) : Bool :=
  match array with
  | [] => true
  | (a, x) :: rest => a < Config.storeBytes && x != Config.erasedByte && rest.all (fun p => a < p.1) && arrayForm rest

/-! ## Answers -/

/-- What a command of the catalogue answers: a refusal by its RESULT, which changes nothing (R180), or the state after it with
the payload of its reply. -/
abbrev Answer := Except Result (State × List Byte)

/-- Refuse unless a condition holds, then go on. -/
def check (ok : Bool) (r : Result) (go : Answer) : Answer := if ok then go else .error r

end Sys2Proof.Machine
end

