-- ==== Sys2Proof/Machine/Claims.lean ====
section
/-! DEFINITION. The Claim Manager's own work (Chapter 4): the countdown of overrides, and the commands OVERRIDE, CLEAR_OVERRIDE,
HOLD, RELEASE_HOLD and READ_CHANNEL. -/

namespace Sys2Proof.Machine

/-! ## The countdown of overrides (R69) -/

/-- An override with its counters lowered by one; other claims as they are (R69). -/
def Claim.lowered (c : Claim) : Claim :=
  match c.kind with
  | .override o (.after n) cap => { c with kind := .override o (.after (n - 1)) (cap - 1) }
  | .override o .untilNext cap => { c with kind := .override o .untilNext (cap - 1) }
  | _ => c

/-- Is this an override whose remaining minutes or cap remaining are 0 (R69)? -/
def Claim.runOut (c : Claim) : Bool :=
  match c.kind with
  | .override _ ending cap => ending == .after 0 || cap == 0
  | _ => false

/-- Count down the override of one channel, removing it with OVERRIDE_ENDED if it has run out. -/
def State.countdownChannel (s : State) (c : Chan) : State :=
  let s := s.setClaims c ((s.chan c).claims.map Claim.lowered)
  if (s.chan c).claims.any Claim.runOut then s.dropOverride c else s

/-- The countdown of every override at a minute tick, one operation (R69). -/
def State.countdownOverrides (s : State) : State :=
  (s.forEach allChannels State.countdownChannel).retargetAll allChannels

/-! ## Commands -/

/-- OVERRIDE: channel set, action, ending, minutes (R73; log 8). -/
def cmdOverride (p : List Byte) (s : State) : Answer :=
  match p with
  | [hi, lo, action, ending, m1, m0] =>
    match readFlag action, readEnding ending m1 m0 with
    | some a, some e =>
      let set := readSet hi lo
      check (set != 0) .badField <|
        let cs := channelsOf set
        let s' := (s.forEach cs fun s c => s.putOverride c a .host e).retargetAll cs
        .ok (s', writeSet (changedTargets s s' cs))
    | _, _ => .error .badField
  | _ => .error .badLength

/-- CLEAR_OVERRIDE (R74). -/
def cmdClearOverride (p : List Byte) (s : State) : Answer :=
  match p with
  | [hi, lo] =>
    let set := readSet hi lo
    check (set != 0) .badField <|
      let cs := channelsOf set
      let s' := (s.forEach cs State.dropOverride).retargetAll cs
      .ok (s', writeSet (setOf (cs.filter fun c => (s.chan c).claims.any Claim.isOverride)))
  | _ => .error .badLength

/-- HOLD: channel set, action (R75). -/
def cmdHold (p : List Byte) (s : State) : Answer :=
  match p with
  | [hi, lo, action] =>
    match readFlag action with
    | some a =>
      let set := readSet hi lo
      check (set != 0) .badField <|
        let cs := channelsOf set
        let s' := (s.forEach cs fun s c => s.putHold c a).retargetAll cs
        .ok (s', writeSet (changedTargets s s' cs))
    | none => .error .badField
  | _ => .error .badLength

/-- RELEASE_HOLD (R76). -/
def cmdReleaseHold (p : List Byte) (s : State) : Answer :=
  match p with
  | [hi, lo] =>
    let set := readSet hi lo
    check (set != 0) .badField <|
      let cs := channelsOf set
      let s' := (s.forEach cs State.dropHold).retargetAll cs
      .ok (s', writeSet (setOf (cs.filter s.held)) ++ writeSet (changedTargets s s' cs))
  | _ => .error .badLength

/-- READ_CHANNEL (R77, Chapter 12). -/
def cmdReadChannel (p : List Byte) (s : State) : Answer :=
  match p with
  | [channel, position] =>
    match readChannelNo channel with
    | none => .error .badField
    | some c =>
      check (position.toNat ≤ 130) .badField <|
        let ch := s.chan c
        let shown := (ch.claims.drop position.toNat).take 8
        .ok (s, writeConfig ch.config ++ [if ch.target then 1 else 0, ch.driven.code, ch.switch.code, byteOf s.freeCount,
            byteOf ch.claims.length, byteOf shown.length] ++ shown.flatMap writeClaim ++
          [byteOf (if shown.isEmpty then ch.claims.length else position.toNat + shown.length)])
  | _ => .error .badLength

end Sys2Proof.Machine
end

