-- ==== Sys2Proof/Machine/Buttons.lean ====
section
/-! DEFINITION. The Button Unit (Chapter 6): press timing, press actions, and the commands CONFIGURE_BUTTON and READ_BUTTON. -/

namespace Sys2Proof.Machine

/-! ## Durations of a press, in crystal cycles (R106, R124) -/

/-- 30 ms: the debounce of a press and the confirmation of a release. -/
def debounceCycles : Nat := millis 30

/-- 1.5 s: the shortest press that asks for nothing. -/
def shortPressCycles : Nat := millis 1500

/-- 3 s: the instant of a long press. -/
def longPressCycles : Nat := millis 3000

/-! ## Examination (R107) -/

/-- Is a button examined: enabled, and the supply RUN or RESTORING (R107)? -/
def State.examined (s : State) (b : ButtonNo) : Bool := (s.button b).enabled && s.supply.state != .backup

/-- The press state at the moment a button becomes examinable: a button held low must be released first (R107). -/
def Button.atExamination (x : Button) : PressState := if x.sampledLow then .longDone none else .released

/-- Set the press state of a button. -/
def State.setPress (s : State) (b : ButtonNo) (p : PressState) : State := s.setButton b { s.button b with press := p }

/-- Set the last action of a button, at the calendar minute of now (R103). -/
def State.setLastAction (s : State) (b : ButtonNo) (o : PressOutcome) : State :=
  s.setButton b { s.button b with lastOutcome := o, lastMinute := some s.now }

/-! ## Press actions (R108 to R110) -/

/-- Report every held channel of a list with HOLD_BLOCKED (R110). -/
def State.reportHeld (s : State) (cs : List Chan) : State := s.forEach cs fun s c => s.raiseChannel c .holdBlocked

/-- A short press: overrides on the unheld channels of the set, OFF if any of them has target ON and ON otherwise (R108, R110). -/
def State.shortPress (s : State) (b : ButtonNo) : State :=
  let x := s.button b
  let cs := channelsOf x.channels
  let held := cs.filter s.held
  let free := cs.filter fun c => !s.held c
  let action := !(free.any fun c => (s.chan c).target)
  if free.isEmpty then (s.reportHeld held).setLastAction b .blocked
  else
    let s := s.reportHeld held
    let s := (s.forEach free fun s c => s.putOverride c action (.button b) x.ending).retargetAll free
    s.setLastAction b (if action then .shortOn else .shortOff)

/-- A long press: the overrides of the unheld channels of the set are removed (R109, R110). -/
def State.longPressAction (s : State) (b : ButtonNo) : State :=
  let cs := channelsOf (s.button b).channels
  let held := cs.filter s.held
  let free := cs.filter fun c => !s.held c
  if free.isEmpty then (s.reportHeld held).setLastAction b .blocked
  else
    let s := s.reportHeld held
    let s := (s.forEach free State.dropOverride).retargetAll free
    s.setLastAction b .long

/-! ## Releases (R106) -/

/-- Has the input stayed high for 30 ms in PRESSED or LONG_DONE (R106)? -/
def State.releaseDue (s : State) (b : ButtonNo) : Bool :=
  s.examined b && !(s.button b).pinLow &&
  match (s.button b).press with
  | .pressed _ (some h) => h + debounceCycles ≤ s.cycles
  | .longDone (some h) => h + debounceCycles ≤ s.cycles
  | _ => false

/-- A release is confirmed: a short press below 1.5 s, NO_ACTION at 1.5 s or more, nothing after LONG_DONE (R106). -/
def State.releaseConfirm (s : State) (b : ButtonNo) : State :=
  if s.releaseDue b then
    match (s.button b).press with
    | .pressed p (some h) =>
      if h < p + shortPressCycles then (s.shortPress b).setPress b .released
      else (s.setLastAction b .noAction).setPress b .released
    | _ => s.setPress b .released
  else s

/-! ## Input events (R106) -/

/-- An input goes low. A high run that has lasted 30 ms is a release, and is taken before the edge. In a supply state in which inputs are
sampled the level is taken, and an examined button follows R106; in PRESSED at or after P + 3 s the waiting long press is taken, and
while the crystal is stopped it waits on (log 19). -/
def State.inputLow (s : State) (b : ButtonNo) : State :=
  if (s.button b).pinLow then s
  else
    let s := s.releaseConfirm b
    let s := s.setButton b { s.button b with pinLow := true }
    let s := if s.supply.state = .backup then s else s.setButton b { s.button b with sampledLow := true }
    if s.examined b then
      match (s.button b).press with
      | .released => s.setPress b (.debouncing s.cycles)
      | .debouncing p => s.setPress b (.debouncing p)
      | .pressed p _ =>
        if s.time.crystalRunning && p + longPressCycles ≤ s.cycles then (s.longPressAction b).setPress b (.longDone none)
        else s.setPress b (.pressed p none)
      | .longDone _ => s.setPress b (.longDone none)
    else s

/-- An input goes high. Before P + 30 ms a press is dropped; otherwise a high run begins (R106). -/
def State.inputHigh (s : State) (b : ButtonNo) : State :=
  if (s.button b).pinLow then
    let s := s.setButton b { s.button b with pinLow := false }
    let s := if s.supply.state = .backup then s else s.setButton b { s.button b with sampledLow := false }
    if s.examined b then
      match (s.button b).press with
      | .released => s
      | .debouncing p =>
        if s.cycles < p + debounceCycles then s.setPress b .released else s.setPress b (.pressed p (some s.cycles))
      | .pressed p _ => s.setPress b (.pressed p (some s.cycles))
      | .longDone _ => s.setPress b (.longDone (some s.cycles))
    else s
  else s

/-- Is the debounce of a press over: the input still low at P + 30 ms (R106)? -/
def State.debounceDue (s : State) (b : ButtonNo) : Bool :=
  s.examined b &&
  match (s.button b).press with
  | .debouncing p => (s.button b).pinLow && p + debounceCycles ≤ s.cycles
  | _ => false

/-- The press is confirmed (R106). -/
def State.debounceExpiry (s : State) (b : ButtonNo) : State :=
  if s.debounceDue b then
    match (s.button b).press with
    | .debouncing p => s.setPress b (.pressed p none)
    | _ => s
  else s

/-- Is the input of a PRESSED button low at or after P + 3 s, the crystal running (R106)? It may have gone low during a stop. -/
def State.longPressDue (s : State) (b : ButtonNo) : Bool :=
  s.examined b && s.time.crystalRunning && (s.button b).pinLow &&
  match (s.button b).press with
  | .pressed p none => p + longPressCycles ≤ s.cycles
  | _ => false

/-- A long press falls due (R106, R109). -/
def State.longPress (s : State) (b : ButtonNo) : State :=
  if s.longPressDue b then (s.longPressAction b).setPress b (.longDone none) else s

/-! ## Supply transitions (R107) -/

/-- Entering BACKUP at one button: RELEASED, any press abandoned. -/
def State.releaseButton (s : State) (b : ButtonNo) : State := s.setPress b .released

/-- Entering RESTORING at one button: the input is sampled at once, and an enabled button becomes examinable. -/
def State.sampleButton (s : State) (b : ButtonNo) : State :=
  let x := { s.button b with sampledLow := (s.button b).pinLow }
  s.setButton b { x with press := if x.enabled then x.atExamination else .released }

/-! ## Commands -/

/-- The settings of a button with the change of press state that a change of the enabled flag makes (R104, R107). -/
def State.applyButton (s : State) (b : ButtonNo) (set : Word) (ending : OverrideEnding) (enabled : Bool) : State :=
  let old := s.button b
  let press :=
    if !enabled then .released
    else if old.enabled then old.press
    else if s.supply.state = .backup then .released
    else old.atExamination
  s.setButton b { old with channels := set, ending := ending, enabled := enabled, press := press }

/-- A button with its settings, as CONFIGURE_BUTTON and a BUTTON item carry them (R104). -/
def buttonItem (p : List Byte) (s : State) : Except Result (ButtonNo × State) :=
  match p with
  | [button, hi, lo, ending, m1, m0, enabled] =>
    match readButtonNo button, readEnding ending m1 m0, readFlag enabled with
    | some b, some e, some on =>
      if on && readSet hi lo == 0 then .error .badField else .ok (b, s.applyButton b (readSet hi lo) e on)
    | _, _, _ => .error .badField
  | _ => .error .badLength

/-- The settings of a button, in six bytes. -/
def writeSettings (x : Button) : List Byte := writeSet x.channels ++ writeEnding x.ending ++ writeFlag x.enabled

/-- CONFIGURE_BUTTON (R104). -/
def cmdConfigureButton (p : List Byte) (s : State) : Answer :=
  check (!s.loadRunning) .busy <|
    match buttonItem p s with
    | .error r => .error r
    | .ok (b, s') => .ok (s', writeSettings (s'.button b) ++ [(s'.button b).press.code])

/-- READ_BUTTON: settings, press state, input level (high 0, low 1), last action (R105; log 11). -/
def cmdReadButton (p : List Byte) (s : State) : Answer :=
  match p with
  | [button] =>
    match readButtonNo button with
    | none => .error .badField
    | some b =>
      let x := s.button b
      .ok (s, writeSettings x ++ [x.press.code, if x.sampledLow then 1 else 0, x.lastOutcome.code] ++
        orAbsent 5 writeMinute x.lastMinute)
  | _ => .error .badLength

end Sys2Proof.Machine
end

