-- ==== Sys2Proof/Machine/Exceptions.lean ====
section
/-! DEFINITION. The Exception Calendar (Chapter 3): which days a record covers, the lookup of a date, today's class, the lapse of
past records, and the commands ADD_EXCEPTION, REMOVE_EXCEPTION, LIST_EXCEPTIONS and DAY_CLASS. -/

namespace Sys2Proof.Machine

/-! ## Spans (R49 to R51) -/

/-- The month-day of a date. -/
def Date.monthDay (d : Date) : MonthDay := ⟨d.month, d.day⟩

/-- Does an annual span from place `first` to place `last` of the 366 cover a place? One whose first is later than its last wraps
the year end (R49). -/
def annualCovers (first last place : Nat) : Bool :=
  if first ≤ last then first ≤ place && place ≤ last else first ≤ place || place ≤ last

/-- Does a record's span cover a date (R49)? -/
def ExceptionSpan.covers (x : ExceptionSpan) (d : Date) : Bool :=
  match x with
  | .dated first last => first.key ≤ d.key && d.key ≤ last.key
  | .annual first last => annualCovers first.ordinal last.ordinal d.monthDay.ordinal

/-- Do two spans of the same kind share a day? Two that share a day share the first day of one of them. Spans of different kinds
never conflict (R50). -/
def ExceptionSpan.conflicts (x y : ExceptionSpan) : Bool :=
  match x, y with
  | .dated f₁ l₁, .dated f₂ l₂ => f₁.key ≤ l₂.key && f₂.key ≤ l₁.key
  | .annual f₁ l₁, .annual f₂ l₂ =>
    annualCovers f₁.ordinal l₁.ordinal f₂.ordinal || annualCovers f₂.ordinal l₂.ordinal f₁.ordinal
  | _, _ => false

/-- A number that orders spans as the list order does: dated by first date, then annual by first month-day (R51). -/
def ExceptionSpan.listKey : ExceptionSpan → Nat
  | .dated first _ => first.key
  | .annual first _ => Date.last.key + first.ordinal

/-- Put a record into the list at the place its kind and first day give it (R51). -/
def insertException (r : ExceptionRecord) : List ExceptionRecord → List ExceptionRecord
  | [] => [r]
  | x :: xs => if r.span.listKey < x.span.listKey then r :: x :: xs else x :: insertException r xs

/-! ## Lookup and today's class (R52, R53) -/

/-- The record that decides the class of a date: a dated one that covers it, else an annual one (R52). -/
def lookupRecord (records : List ExceptionRecord) (d : Date) : Option ExceptionRecord :=
  match records.find? fun r => !r.span.isAnnual && r.span.covers d with
  | some r => some r
  | none => records.find? fun r => r.span.isAnnual && r.span.covers d

/-- The class of a date (R52). -/
def lookupClass (records : List ExceptionRecord) (d : Date) : DayClass :=
  match lookupRecord records d with
  | some r => r.cls
  | none => .normal

/-- Recompute today's class: the lookup for the date held, or NORMAL while time is UNSET (R53). -/
def State.recomputeToday (s : State) : State :=
  s.setCalendar { s.calendar with
    todayClass := if s.time.validity = .unset then .normal else lookupClass s.calendar.records s.today }

/-- Is a record a dated one whose last date is past (R54)? -/
def ExceptionRecord.lapsed (r : ExceptionRecord) (today : Date) : Bool :=
  match r.span with
  | .dated _ last => last.key < today.key
  | .annual _ _ => false

/-- Remove every past dated record, while time is VALID, with LAPSED if one was removed (R54). -/
def State.lapse (s : State) : State :=
  if s.timeValid && s.calendar.records.any (fun r => r.lapsed s.today) then
    (s.setCalendar { s.calendar with
      records := s.calendar.records.filter fun r => !r.lapsed s.today }).raiseCalendar .lapsed
  else s

/-- The calendar's work at a day rollover and at SET_TIME (R33, R45, R53, R54). -/
def State.calendarDayWork (s : State) : State := s.recomputeToday.lapse

/-! ## Changes of the list (R55, R59) -/

/-- Add a record that passed the checks of its own fields: BAD_FIELD if it is dated and already past while time is VALID, OVERLAP,
CALENDAR_FULL, or the addition with CHANGED (R48, R55). -/
def State.addRecord (s : State) (origin : Origin) (x : ExceptionSpan × DayClass) : Except Result State :=
  let r : ExceptionRecord := ⟨x.1, x.2, origin⟩
  if s.timeValid && r.lapsed s.today then .error .badField
  else if s.calendar.records.any (fun y => y.span.conflicts r.span) then .error .overlap
  else if Config.calendarRecords ≤ s.calendar.records.length then .error .calendarFull
  else .ok ((s.setCalendar { s.calendar with
    records := insertException r s.calendar.records }).recomputeToday.raiseCalendar .changed)

/-- Remove every record that does not meet a condition, recomputing today's class and adding CHANGED if any was removed (R59). -/
def State.keepRecords (s : State) (keep : ExceptionRecord → Bool) : State :=
  if s.calendar.records.all keep then s
  else (s.setCalendar { s.calendar with
    records := s.calendar.records.filter keep }).recomputeToday.raiseCalendar .changed

/-- What ADD_EXCEPTION and REMOVE_EXCEPTION reply: the record count and today's class (R55, R56). -/
def calendarReply (s : State) : List Byte :=
  [byteOf s.calendar.records.length, byteOf s.calendar.todayClass.code]

/-! ## Commands -/

/-- An exception record of seven bytes offered to the calendar (R55, R59). -/
def addExceptionItem (origin : Origin) (p : List Byte) (s : State) : Except Result State :=
  match p with
  | [head, f1, f2, f3, l1, l2, l3] =>
    match readException head f1 f2 f3 l1 l2 l3 with
    | some x => s.addRecord origin x
    | none => .error .badField
  | _ => .error .badLength

/-- ADD_EXCEPTION (R55). -/
def cmdAddException (p : List Byte) (s : State) : Answer :=
  check (!s.loadRunning) .busy <|
    match addExceptionItem .host p s with
    | .ok s' => .ok (s', calendarReply s')
    | .error r => .error r

/-- The record of a kind whose first day is the one given (R56). -/
def ExceptionSpan.startsOn (x y : ExceptionSpan) : Bool :=
  match x, y with
  | .dated f _, .dated g _ => f == g
  | .annual f _, .annual g _ => f == g
  | _, _ => false

/-- The kind and first day that REMOVE_EXCEPTION names, as a span of that one day (R56). -/
def readFirstDay (head f1 f2 f3 : Byte) : Option ExceptionSpan :=
  if head == 0x80 then (readMonthDay f1 f2 f3).map fun m => .annual m m
  else if head == 0 then (readDate f1 f2 f3).map fun d => .dated d d
  else none

/-- REMOVE_EXCEPTION (R56). -/
def cmdRemoveException (p : List Byte) (s : State) : Answer :=
  check (!s.loadRunning) .busy <|
    match p with
    | [head, f1, f2, f3] =>
      match readFirstDay head f1 f2 f3 with
      | some x =>
        check (s.calendar.records.any fun r => r.span.startsOn x) .notFound <|
          let s' := s.keepRecords fun r => !r.span.startsOn x
          .ok (s', calendarReply s')
      | none => .error .badField
    | _ => .error .badLength

/-- LIST_EXCEPTIONS (R57). -/
def cmdListExceptions (p : List Byte) (s : State) : Answer :=
  match p with
  | [cursor] =>
    check (cursor.toNat ≤ Config.calendarRecords) .badField <|
      let shown := (s.calendar.records.drop cursor.toNat).take 8
      let total := s.calendar.records.length
      .ok (s, [byteOf shown.length, byteOf total, byteOf s.calendar.todayClass.code] ++ shown.flatMap writeException ++
        [byteOf (if shown.isEmpty then total else cursor.toNat + shown.length)])
  | _ => .error .badLength

/-- The class, the source (DATED 0, ANNUAL 1, NONE 2) and the first day that DAY_CLASS replies (R58). -/
def dayClassReply (r : Option ExceptionRecord) : List Byte :=
  match r with
  | none => [0, 2] ++ absent 3
  | some r =>
    match r.span with
    | .dated first _ => [byteOf r.cls.code, 0] ++ writeDate first
    | .annual first _ => [byteOf r.cls.code, 1] ++ writeMonthDay first

/-- DAY_CLASS (R58). -/
def cmdDayClass (p : List Byte) (s : State) : Answer :=
  match p with
  | [y, m, d] =>
    match readDate y m d with
    | some date => .ok (s, dayClassReply (lookupRecord s.calendar.records date))
    | none => .error .badField
  | _ => .error .badLength

end Sys2Proof.Machine
end

