-- ==== Sys2Proof/Machine/Schedule.lean ====
section
/-! DEFINITION. The Schedule Table (Chapters 1 and 2): how an entry is judged, started and ended, the work of a minute tick, of a
light event and of SET_TIME, and the entry commands. -/

namespace Sys2Proof.Machine

/-! ## Judging an entry -/

/-- What the dates of an entry judge (R6). -/
inductive Judgement where
  | expired | waiting | armed
  deriving DecidableEq, Repr

/-- Is valid-until present and earlier than a date? -/
def EntryBody.pastUntil (b : EntryBody) (d : Date) : Bool :=
  match b.validUntil with
  | some u => u.key < d.key
  | none => false

/-- Is valid-from present and later than a date? -/
def EntryBody.beforeFrom (b : EntryBody) (d : Date) : Bool :=
  match b.validFrom with
  | some f => d.key < f.key
  | none => false

/-- Judge the state of an entry from its dates (R6). -/
def State.judge (s : State) (b : EntryBody) : Judgement :=
  if s.timeValid then
    if b.pastUntil s.today then .expired else if b.beforeFrom s.today then .waiting else .armed
  else if b.validFrom.isSome then .waiting else .armed

/-- Does a date lie within an entry's validity (R28)? -/
def EntryBody.inForce (b : EntryBody) (d : Date) : Bool := !b.beforeFrom d && !b.pastUntil d

/-- Is a date of a class an eligible day for an entry (R27)? -/
def EntryBody.eligible (b : EntryBody) (d : Date) (cls : DayClass) : Bool :=
  b.classes.getLsbD cls.code && (cls != .normal || b.weekdays.getLsbD (d.weekday - 1))

/-- Is a part of a pattern ANY or equal to a value (R26)? -/
def anyOr (part : Option Nat) (value : Nat) : Bool :=
  match part with
  | none => true
  | some n => n == value

/-- Does an AT_TIME trigger's pattern match a calendar minute (R26)? -/
def StartTrigger.matchesMinute (t : StartTrigger) (m : CalMinute) : Bool :=
  match t with
  | .atTime minute hour day month =>
    minute == m.tod.minute && anyOr hour m.tod.hour && anyOr day m.date.day && anyOr month m.date.month
  | _ => false

/-- Does the light window admit a time of day (R29)? -/
def EntryBody.windowAdmits (b : EntryBody) (t : TimeOfDay) : Bool :=
  match b.windowEarliest, b.windowLatest with
  | none, none => true
  | some e, none => e.minutes ≤ t.minutes
  | none, some l => t.minutes ≤ l.minutes
  | some e, some l =>
    if e.minutes ≤ l.minutes then e.minutes ≤ t.minutes && t.minutes ≤ l.minutes
    else e.minutes ≤ t.minutes || t.minutes ≤ l.minutes

/-- Can the entry be offered a start: ARMED, or ACTIVE with its count absent or above 0 (R10)? -/
def Entry.offered (e : Entry) : Bool :=
  match e.state with
  | .armed => true
  | .active _ _ => e.body.count != some 0
  | _ => false

/-- Has the entry not started today (R30)? -/
def Entry.freshToday (e : Entry) (today : Date) : Bool := e.lastStart != some today

/-- Is the light UNKNOWN or FAULT, or the supply BACKUP (R32, R35)? -/
def State.lightInDoubt (s : State) : Bool :=
  s.light.state == .unknown || s.light.state == .fault || s.supply.state == .backup

/-! ## ENDED entries (R14, R15) -/

/-- A number that orders ENDED entries by ended-at, then by slot (R15). -/
def State.endedKey (s : State) (i : SlotNo) : Nat :=
  match (s.slot i).entry with
  | some e =>
    match e.state with
    | .ended _ m => m.key * 128 + i.val
    | _ => i.val
  | none => i.val

/-- Put a slot into the ENDED order at the place its key gives it (R15). -/
def insertEnded (key : SlotNo → Nat) (i : SlotNo) : List SlotNo → List SlotNo
  | [] => [i]
  | j :: js => if key i < key j then i :: j :: js else j :: insertEnded key i js

/-- An entry goes to ENDED, with ended-at now, and joins the ENDED order (R9, R15). -/
def State.toEnded (s : State) (i : SlotNo) (e : Entry) (reason : EndReason) : State :=
  let s := s.setEntry i { e with state := .ended reason s.now }
  s.setTable { s.table with endedOrder := insertEnded s.endedKey i s.table.endedOrder }

/-- Empty a slot: its record is cleared, its generation advances, and it leaves the ENDED order (R1, R14, R20). -/
def State.clearSlot (s : State) (i : SlotNo) : State :=
  let s := s.setSlot i ⟨(s.slot i).generation + 1, none⟩
  s.setTable { s.table with endedOrder := s.table.endedOrder.filter (· != i) }

/-! ## Starts and ends (R9, R10) -/

/-- The claim state that a start at `start` sets (R38). A catch-up start stores the end instant the check found (R44). -/
def EntryBody.claimState (b : EntryBody) (start : CalMinute) (found : Option CalMinute) : ClaimState where
  start := start
  endInstant :=
    match b.ending with
    | .atTime t => some (found.getD (start.firstAfter t))
    | _ => none
  remaining :=
    match b.ending with
    | .after n => some n
    | _ => none
  fallbackInstant := if b.ending.isLight then b.endFallback.map start.firstAfter else none
  cap := Config.capMinutes

/-- The record of an entry after a start is taken (R10). -/
def Entry.started (e : Entry) (now : CalMinute) (found : Option CalMinute) (marked : Bool) : Entry :=
  { e with
    state := .active (e.body.claimState now found) marked
    starts := min 65535 (e.starts + 1)
    lastStart := some now.date
    body := { e.body with count := e.body.count.map (· - 1) } }

/-- A start of the entry in a slot: a first start drawing pool records, a refusal as MISSED, or a restart (R10, R41). -/
def State.start (s : State) (i : SlotNo) (found : Option CalMinute) : State :=
  match (s.slot i).entry with
  | none => s
  | some e =>
    match e.state with
    | .armed =>
      if s.freeCount < setSize e.body.channels then
        (s.setEntry i { e with missed := min 255 (e.missed + 1) }).raiseEntry i .missed
      else
        ((s.placeClaims i e.body s.now).setEntry i (e.started s.now found false)).raiseEntry i .started
    | .active _ marked =>
      if e.body.count = some 0 then s
      else ((s.renewClaims i e.body s.now).setEntry i (e.started s.now found marked)).raiseEntry i .started
    | _ => s

/-- The end of the claim of the entry in a slot (R9). An entry that is not ACTIVE has no claim to end. -/
def State.endClaim (s : State) (i : SlotNo) : State :=
  match (s.slot i).entry with
  | none => s
  | some e =>
    match e.state with
    | .active _ marked =>
      let s := (s.removeClaims i e.body).raiseEntry i .claimEnded
      if e.body.count = some 0 then (s.toEnded i e .spent).raiseEntry i .spent
      else if marked then (s.toEnded i e .expired).raiseEntry i .expired
      else s.setEntry i { e with state := .armed }
    | _ => s

/-- Take the claims of an ACTIVE entry away, targets left to the end of the operation, with CLAIM_ENDED (R20, R24). -/
def State.stripClaims (s : State) (i : SlotNo) (e : Entry) : State :=
  match e.state with
  | .active _ _ => (s.takeClaims i e.body).raiseEntry i .claimEnded
  | _ => s

/-- Retire the entry in a slot, targets left to the end of the operation (R20). -/
def State.retireOpen (s : State) (i : SlotNo) : State :=
  match (s.slot i).entry with
  | none => s
  | some e => ((s.stripClaims i e).clearSlot i).raiseEntry i .retired

/-- Retire the entry in a slot as one operation (R20). -/
def State.retire (s : State) (i : SlotNo) : State :=
  match (s.slot i).entry with
  | none => s
  | some e => (s.retireOpen i).retargetAll (channelsOf e.body.channels)

/-! ## Catch-up (R43, R44) -/

/-- The calendar minutes of the last 24 hours that have a given minute of the hour, latest first: those of today strictly before
now, then those of yesterday at or after now less 24 hours. A match of a pattern is always among them, since its minute is
fixed (R26, R44). -/
def State.lastDay (s : State) (minute : Nat) : List CalMinute :=
  let t := s.time.time
  let hours := (List.range 24).reverse
  let on (d : Date) : List CalMinute := hours.map fun h => ⟨d, ⟨h, minute⟩⟩
  (on t.date).filter (fun m => m.tod.minutes < t.tod.minutes || (m.tod.minutes == t.tod.minutes && 0 < t.second)) ++
  match t.date.previous with
  | none => []
  | some d =>
    (on d).filter fun m => t.tod.minutes < m.tod.minutes || (m.tod.minutes == t.tod.minutes && t.second == 0)

/-- The latest minute of the last 24 hours at which an entry would have started (R44). -/
def State.missedStart (s : State) (b : EntryBody) : Option CalMinute :=
  match b.trigger with
  | .atTime minute _ _ _ =>
    (s.lastDay minute).find? fun m =>
      b.trigger.matchesMinute m && b.eligible m.date (lookupClass s.calendar.records m.date) && b.inForce m.date
  | _ => none

/-- The catch-up check of the entry in a slot, and its start if it would be in force now (R43, R44). -/
def State.catchUp (s : State) (i : SlotNo) : State :=
  match (s.slot i).entry with
  | none => s
  | some e =>
    if s.timeValid && e.body.catchUp && e.state == .armed then
      match e.body.ending, s.missedStart e.body with
      | .atTime t, some m =>
        let finish := m.firstAfter t
        if s.now.key < finish.key then s.start i (some finish) else s
      | _, _ => s
    else s

/-! ## The minute evaluation (R31 to R35) -/

/-- Has a calendar minute, if held, been reached? -/
def reached (m : Option CalMinute) (now : CalMinute) : Bool :=
  match m with
  | some x => x.key ≤ now.key
  | none => false

/-- Is a claim end due at this tick, its countdowns already lowered (R32)? -/
def State.endDue (s : State) (c : ClaimState) : Bool :=
  c.remaining == some 0 || c.cap == 0 || reached c.endInstant s.now || (reached c.fallbackInstant s.now && s.lightInDoubt)

/-- A claim state with its countdowns lowered by one (R32). -/
def ClaimState.lowered (c : ClaimState) : ClaimState :=
  { c with cap := c.cap - 1, remaining := c.remaining.map (· - 1) }

/-- The claim-end stage at one slot (R32). -/
def State.tickSlot (s : State) (i : SlotNo) : State :=
  match (s.slot i).entry with
  | none => s
  | some e =>
    match e.state with
    | .active c marked =>
      let s := s.setEntry i { e with state := .active c.lowered marked }
      if s.endDue c.lowered then s.endClaim i else s
    | _ => s

/-- The expiry test at one slot; SET_TIME also clears the mark of an entry no longer past its valid-until (R8). -/
def State.expireSlot (clearMarks : Bool) (s : State) (i : SlotNo) : State :=
  match (s.slot i).entry with
  | none => s
  | some e =>
    match e.state with
    | .active c marked =>
      if e.body.pastUntil s.today then s.setEntry i { e with state := .active c true }
      else if clearMarks && marked && e.body.validUntil.isSome then s.setEntry i { e with state := .active c false }
      else s
    | .ended _ _ => s
    | _ => if e.body.pastUntil s.today then (s.toEnded i e .expired).raiseEntry i .expired else s

/-- The arming of a WAITING entry at one slot (R7). -/
def State.armSlot (s : State) (i : SlotNo) : State :=
  match (s.slot i).entry with
  | none => s
  | some e => if e.state == .waiting && !e.body.beforeFrom s.today then s.setEntry i { e with state := .armed } else s

/-- The expiry test of every slot (R8). -/
def State.expiryTest (s : State) (clearMarks : Bool) : State := s.forEach allSlots (State.expireSlot clearMarks)

/-- The arming of every slot (R7). -/
def State.arming (s : State) : State := s.forEach allSlots State.armSlot

/-- The day-rollover stage (R33). -/
def State.dayRollover (s : State) : State :=
  let s := s.calendarDayWork
  if s.timeValid then (s.expiryTest false).arming else s

/-- Is an entry started by the start stage of this minute: by its pattern (R34), or by its start fallback (R35)? -/
def State.startsNow (s : State) (e : Entry) : Bool :=
  e.offered && e.body.eligible s.today s.calendar.todayClass && e.body.inForce s.today &&
  (if e.body.trigger.isTime then e.body.trigger.matchesMinute s.now
   else e.body.startFallback == some s.now.tod && s.lightInDoubt && e.freshToday s.today)

/-- The start stage at one slot. -/
def State.startSlot (s : State) (i : SlotNo) : State :=
  match (s.slot i).entry with
  | none => s
  | some e => if s.startsNow e then s.start i none else s

/-- The minute evaluation: claim ends, day-rollover work at 00:00, then starts while time is VALID (R31, R47). -/
def State.minuteEvaluation (s : State) : State :=
  let s := s.forEach allSlots State.tickSlot
  let s := if s.time.time.tod == ⟨0, 0⟩ then s.dayRollover else s
  if s.timeValid then s.forEach allSlots State.startSlot else s

/-! ## Light events (R36, R37) -/

/-- The end that a light event ends. -/
def LightEvent.ends : LightEvent → EntryEnd
  | .dusk => .onLightNight | .dawn => .onLightDay

/-- The trigger that a light event starts. -/
def LightEvent.trigger : LightEvent → StartTrigger
  | .dusk => .atDusk | .dawn => .atDawn

/-- The ends stage of a light event at one slot (R36). -/
def State.lightEndSlot (ev : LightEvent) (s : State) (i : SlotNo) : State :=
  match (s.slot i).entry with
  | none => s
  | some e => if e.body.ending == ev.ends then s.endClaim i else s

/-- The starts stage of a light event at one slot (R37). -/
def State.lightStartSlot (ev : LightEvent) (s : State) (i : SlotNo) : State :=
  match (s.slot i).entry with
  | none => s
  | some e =>
    if e.body.trigger == ev.trigger && e.offered && e.freshToday s.today &&
        e.body.eligible s.today s.calendar.todayClass &&
        (!s.timeValid || (e.body.inForce s.today && e.body.windowAdmits s.now.tod)) then
      s.start i none
    else s

/-- A DUSK or DAWN event at the Schedule Table: ends, then starts (R36, R37). -/
def State.lightEvent (s : State) (ev : LightEvent) : State :=
  (s.forEach allSlots (State.lightEndSlot ev)).forEach allSlots (State.lightStartSlot ev)

/-! ## SET_TIME at the Schedule Table (R45) -/

/-- End an ACTIVE entry's claim if its AT instant is at or before the new time (R45, step 3). -/
def State.endPastSlot (s : State) (i : SlotNo) : State :=
  match (s.slot i).entry with
  | none => s
  | some e =>
    match e.state with
    | .active c _ => if e.body.ending.isTime && reached c.endInstant s.now then s.endClaim i else s
    | _ => s

/-- The four steps of SET_TIME's share (R45). -/
def State.setTimeSchedule (s : State) : State :=
  let s := (s.expiryTest true).arming
  let s := s.forEach allSlots State.endPastSlot
  s.forEach allSlots State.catchUp

/-! ## Making an entry (R13, R14, R25) -/

/-- The slot for a new entry: the lowest FREE one, else the head of the ENDED order, which is reclaimed (R14). -/
def State.chooseSlot (s : State) : Option (SlotNo × State) :=
  match allSlots.find? fun i => (s.slot i).entry.isNone with
  | some i => some (i, s)
  | none =>
    match s.table.endedOrder with
    | i :: _ => some (i, (s.clearSlot i).raiseEntry i .reclaimed)
    | [] => none

/-- Make an entry from a well-formed body: EXPIRED_ALREADY, TABLE_FULL, or the slot and the state after it, catch-up check
included (R13, R14, R25). -/
def State.makeEntry (s : State) (origin : Origin) (b : EntryBody) : Except Result (SlotNo × State) :=
  let judged := s.judge b
  if judged = .expired then .error .expiredAlready
  else
    match s.chooseSlot with
    | none => .error .tableFull
    | some (i, s) =>
      let state : EntryState := if judged = .armed then .armed else .waiting
      let s := s.setEntry i ⟨origin, b, state, 0, 0, none⟩
      let s := s.raiseEntry i (if origin = .host then .created else .loaded)
      .ok (i, s.catchUp i)

/-! ## Commands -/

/-- The code of the state a slot is in (Chapter 12). -/
def State.stateCode (s : State) (i : SlotNo) : Byte :=
  match (s.slot i).entry with
  | some e => e.state.code
  | none => 0

/-- A handle (Chapter 12). -/
def State.handle (s : State) (i : SlotNo) : List Byte := [byteOf i.val, (s.slot i).generation]

/-- Check a handle and go on with the entry it names (R2). -/
def State.withHandle (s : State) (slot gen : Byte) (go : SlotNo → Entry → Answer) : Answer :=
  match readSlotNo slot with
  | none => .error .badField
  | some i =>
    match (s.slot i).entry with
    | none => .error .staleHandle
    | some e => if (s.slot i).generation = gen then go i e else .error .staleHandle

/-- A command of two bytes, a handle, refused BUSY during a load (R12). -/
def handleCommand (p : List Byte) (s : State) (go : SlotNo → Entry → Answer) : Answer :=
  check (!s.loadRunning) .busy <|
    match p with
    | [slot, gen] => s.withHandle slot gen go
    | _ => .error .badLength

/-- CREATE_ENTRY (R12, R13). -/
def cmdCreateEntry (p : List Byte) (s : State) : Answer :=
  check (!s.loadRunning) .busy <| check (bodyLengthOk p) .badLength <|
    match readBody p with
    | none => .error .badField
    | some b =>
      match s.makeEntry .host b with
      | .error r => .error r
      | .ok (i, s') => .ok (s', s'.handle i ++ [s'.stateCode i])

/-- READ_ENTRY (R16). -/
def cmdReadEntry (p : List Byte) (s : State) : Answer :=
  match p with
  | [slot, gen] => s.withHandle slot gen fun i e => .ok (s, s.handle i ++ writeRecord e)
  | _ => .error .badLength

/-- Is the entry ENDED? -/
def EntryState.isEnded : EntryState → Bool
  | .ended _ _ => true
  | _ => false

/-- Is the entry ACTIVE? -/
def EntryState.isActive : EntryState → Bool
  | .active _ _ => true
  | _ => false

/-- Take the claims of an entry away as one operation, with CLAIM_ENDED, if it is ACTIVE (R17, R18). -/
def State.dropClaims (s : State) (i : SlotNo) (e : Entry) : State :=
  if e.state.isActive then (s.removeClaims i e.body).raiseEntry i .claimEnded else s

/-- MODIFY_ENTRY (R12, R17). -/
def cmdModifyEntry (p : List Byte) (s : State) : Answer :=
  check (!s.loadRunning) .busy <|
    match p with
    | slot :: gen :: body =>
      check (bodyLengthOk body) .badLength <|
        s.withHandle slot gen fun i e =>
          match readBody body with
          | none => .error .badField
          | some b =>
            check (!e.state.isEnded) .wrongState <| check (s.judge b != .expired) .expiredAlready <|
              let state : EntryState := if s.judge b = .armed then .armed else .waiting
              let s := (s.dropClaims i e).setEntry i { e with origin := .host, body := b, state := state }
              let s := (s.raiseEntry i .modified).catchUp i
              .ok (s, [s.stateCode i])
    | _ => .error .badLength

/-- SUSPEND_ENTRY (R18). -/
def cmdSuspendEntry (p : List Byte) (s : State) : Answer :=
  handleCommand p s fun i e =>
    check (!e.state.isEnded && e.state != .suspended) .wrongState <|
      let spent := e.state.isActive && e.body.count == some 0
      let s := s.dropClaims i e
      let s := if spent then (s.toEnded i e .spent).raiseEntry i .spent
        else s.setEntry i { e with state := .suspended }
      let s := s.raiseEntry i .modified
      .ok (s, [s.stateCode i])

/-- RESUME_ENTRY (R19). -/
def cmdResumeEntry (p : List Byte) (s : State) : Answer :=
  handleCommand p s fun i e =>
    check (e.state == .suspended) .wrongState <|
      let s :=
        match s.judge e.body with
        | .expired => (s.toEnded i e .expired).raiseEntry i .expired
        | .waiting => s.setEntry i { e with state := .waiting }
        | .armed => s.setEntry i { e with state := .armed }
      let s := (s.raiseEntry i .modified).catchUp i
      .ok (s, [s.stateCode i])

/-- RETIRE_ENTRY (R20). -/
def cmdRetireEntry (p : List Byte) (s : State) : Answer :=
  handleCommand p s fun i _ => .ok (s.retire i, [])

/-- START_ENTRY (R21). The outcome is STARTED 0 or MISSED 1 (R190). -/
def cmdStartEntry (p : List Byte) (s : State) : Answer :=
  handleCommand p s fun i e =>
    check e.offered .wrongState <|
      let missed := e.state == .armed && s.freeCount < setSize e.body.channels
      .ok (s.start i none, [if missed then 1 else 0])

/-- END_ENTRY (R22). -/
def cmdEndEntry (p : List Byte) (s : State) : Answer :=
  handleCommand p s fun i e =>
    check e.state.isActive .wrongState <|
      let s := s.endClaim i
      .ok (s, [s.stateCode i])

/-- Does an entry match a filter whose parts are left open by 0xFF (R23)? -/
def Entry.matchesFilter (e : Entry) (channel states origin : Byte) : Bool :=
  (channel == 0xFF || e.body.channels.getLsbD channel.toNat) &&
  (states == 0xFF || states.getLsbD (e.state.code.toNat - 1)) &&
  (origin == 0xFF || e.origin.code == origin)

/-- Is a filter with a cursor in range (R23)? -/
def filterOk (channel states origin cursor : Byte) : Bool :=
  (channel == 0xFF || channel.toNat ≤ 15) && (states == 0xFF || (states != 0 && states.toNat < 32)) &&
  (origin == 0xFF || origin.toNat ≤ 1) && cursor.toNat ≤ 127

/-- Scan slots upward until `room` matches have been gathered or the list ends: the matches and the next cursor (R23). -/
def scanSlots (found : SlotNo → Bool) : List SlotNo → Nat → List SlotNo × Nat
  | [], _ => ([], 128)
  | i :: _, 0 => ([], i.val)
  | i :: is, room + 1 =>
    if found i then
      let (more, next) := scanSlots found is room
      (i :: more, next)
    else scanSlots found is (room + 1)

/-- FIND_ENTRIES: a channel, a state set and an origin, one byte each, then the cursor (R23; log 10). -/
def cmdFindEntries (p : List Byte) (s : State) : Answer :=
  match p with
  | [channel, states, origin, cursor] =>
    check (filterOk channel states origin cursor) .badField <|
      let found (i : SlotNo) : Bool :=
        match (s.slot i).entry with
        | some e => e.matchesFilter channel states origin
        | none => false
      let (hits, next) := scanSlots found (allSlots.drop cursor.toNat) 32
      .ok (s, [byteOf hits.length] ++ hits.flatMap (fun i => s.handle i ++ [s.stateCode i]) ++ [byteOf next])
  | _ => .error .badLength

/-- CLEAR_ALL at all three blocks: every entry retired in slot order, every exception and every override removed, holds kept, and
each target computed once at the end (R24, R59, R78). -/
def State.clearAll (s : State) : State :=
  let s := s.forEach allSlots State.retireOpen
  let s := (s.keepRecords fun _ => false).recomputeToday
  (s.forEach allChannels State.dropOverride).retargetAll allChannels

/-- CLEAR_ALL (R12, R24). -/
def cmdClearAll (p : List Byte) (s : State) : Answer :=
  check (!s.loadRunning) .busy <| check p.isEmpty .badLength <| .ok (s.clearAll, [])

/-- The retire phase of a load at one slot: an entry of origin STORE is retired (R25). -/
def State.retireStored (s : State) (i : SlotNo) : State :=
  match (s.slot i).entry with
  | none => s
  | some e => if e.origin = .store then s.retire i else s

end Sys2Proof.Machine
end

