-- ==== Sys2Proof/Machine/Light.lean ====
section
/-! DEFINITION. The Light Monitor (Chapter 7): the photocell sample, the fault test, the confirmation of dusk and dawn, and the
commands SET_LIGHT_LIMITS and READ_LIGHT. -/

namespace Sys2Proof.Machine

/-! ## Samples (R111) -/

/-- The class of an in-range sample. -/
inductive LightClass where
  | dark | between | bright
  deriving DecidableEq, Repr

/-- Is a sample at a rail: 0 or 1023 (R111)? -/
def railSample (v : Nat) : Bool := v == 0 || v == 1023

/-- The class of an in-range sample under the limits held (R111). -/
def LightMonitor.classOf (l : LightMonitor) (v : Nat) : LightClass :=
  if v < l.darkEnter then .dark else if v < l.darkLeave then .between else .bright

/-- The Light Monitor in FAULT or back in UNKNOWN: both counters 0 and the side NONE (R116). -/
def LightMonitor.restart (l : LightMonitor) (st : LightState) : LightMonitor :=
  { l with state := st, faults := 0, confirm := 0, side := .none }

/-- The fault test, which takes every sample first: 30 consecutive rail samples make FAULT, 30 consecutive in-range samples leave
it. The flag says that the sample is left for classification (R116). -/
def LightMonitor.faultTest (l : LightMonitor) (v : Nat) : LightMonitor × Bool :=
  if l.state = .fault then
    if railSample v then ({ l with faults := 0 }, false)
    else if 30 ≤ l.faults + 1 then (l.restart .unknown, false)
    else ({ l with faults := l.faults + 1 }, false)
  else if railSample v then
    if 30 ≤ l.faults + 1 then (l.restart .fault, false) else ({ l with faults := l.faults + 1 }, false)
  else ({ l with faults := 0 }, true)

/-! ## Confirmation (R113 to R115) -/

/-- A run of `n` confirmed samples toward a settled state: at C or more the state settles with its event, below it the run goes
on in its own state (R113, R114). -/
def LightMonitor.run (l : LightMonitor) (n : Nat) (running settled : LightState) (ev : LightEvent) :
    LightMonitor × Option LightEvent :=
  if l.confirmCount ≤ n then ({ l with state := settled, confirm := 0 }, some ev)
  else ({ l with state := running, confirm := n }, none)

/-- A run of `n` samples on one side in UNKNOWN: at C or more the state settles silently (R115). -/
def LightMonitor.resolve (l : LightMonitor) (n : Nat) (side : LightSide) (settled : LightState) :
    LightMonitor × Option LightEvent :=
  if l.confirmCount ≤ n then ({ l with state := settled, confirm := 0, side := .none }, none)
  else ({ l with confirm := n, side := side }, none)

/-- An in-range sample that the fault test left, in each state (R113 to R115). -/
def LightMonitor.classify (l : LightMonitor) (c : LightClass) : LightMonitor × Option LightEvent :=
  match l.state, c with
  | .day, .dark => l.run 1 .dusking .night .dusk
  | .day, _ => (l, none)
  | .dusking, .dark => l.run (l.confirm + 1) .dusking .night .dusk
  | .dusking, .between => (l, none)
  | .dusking, .bright => ({ l with state := .day, confirm := 0 }, none)
  | .night, .bright => l.run 1 .dawning .day .dawn
  | .night, _ => (l, none)
  | .dawning, .bright => l.run (l.confirm + 1) .dawning .day .dawn
  | .dawning, .between => (l, none)
  | .dawning, .dark => ({ l with state := .night, confirm := 0 }, none)
  | .unknown, .dark => l.resolve (if l.side = .dark then l.confirm + 1 else 1) .dark .night
  | .unknown, .bright => l.resolve (if l.side = .bright then l.confirm + 1 else 1) .bright .day
  | .unknown, .between => ({ l with side := .none, confirm := 0 }, none)
  | .fault, _ => (l, none)

/-- One sample in the Light Monitor's own state: its value is kept, the next sample falls a second later, and the fault test and
the classification take it (R111, R116). -/
def LightMonitor.sample (l : LightMonitor) (v : Nat) : LightMonitor × Option LightEvent :=
  let l := { l with lastSample := some v, nextSample := l.nextSample + Config.second }
  match l.faultTest v with
  | (l, true) => l.classify (l.classOf v)
  | (l, false) => (l, none)

/-! ## Events (R117) -/

/-- Replace the Light Monitor, adding LIGHT if the light state has changed (R117). -/
def State.updateLight (s : State) (l : LightMonitor) : State :=
  let before := s.light.state
  let s := s.setLight l
  if l.state = before then s else s.raiseSystem .light

/-- Is a sample due: in RUN or RESTORING, each second while the crystal runs (R111)? -/
def State.sampleDue (s : State) : Bool :=
  s.supply.state != .backup && s.time.crystalRunning && s.light.nextSample ≤ s.cycles

/-- The photocell sample: the Light Monitor completes its own work, the last event and LIGHT included, and then hands DUSK or DAWN to
the Schedule Table (R111, R117). -/
def State.luxSample (s : State) (v : Nat) : State :=
  if s.sampleDue then
    match s.light.sample v with
    | (l, none) => s.updateLight l
    | (l, some ev) => (s.updateLight { l with lastEvent := some (ev, s.now) }).lightEvent ev
  else s

/-- Entering BACKUP at the Light Monitor: UNKNOWN, counters 0, no side, no last sample (R120). -/
def State.darkenLight (s : State) : State := s.updateLight { s.light.restart .unknown with lastSample := none }

/-! ## Commands -/

/-- Three limits, as SET_LIGHT_LIMITS and a LIGHT_LIMITS item carry them (R118, R121). -/
def lightLimitsItem (p : List Byte) (s : State) : Except Result State :=
  match p with
  | [e1, e0, l1, l0, c] =>
    let enter := natOf e1 e0
    let leave := natOf l1 l0
    if enter ≤ 1023 && leave ≤ 1023 && c != 0 && enter < leave then
      .ok (s.setLight { s.light with darkEnter := enter, darkLeave := leave, confirmCount := c.toNat })
    else .error .badField
  | _ => .error .badLength

/-- The three limits in five bytes. -/
def writeLimits (l : LightMonitor) : List Byte := twoBytes l.darkEnter ++ twoBytes l.darkLeave ++ [byteOf l.confirmCount]

/-- SET_LIGHT_LIMITS (R118). -/
def cmdSetLightLimits (p : List Byte) (s : State) : Answer :=
  check (!s.loadRunning) .busy <|
    match lightLimitsItem p s with
    | .error r => .error r
    | .ok s' => .ok (s', writeLimits s'.light ++ [s'.light.state.code])

/-- READ_LIGHT (R119). The side is sent in UNKNOWN alone (R190). -/
def cmdReadLight (p : List Byte) (s : State) : Answer :=
  check p.isEmpty .badLength <|
    let l := s.light
    .ok (s, [l.state.code, byteOf l.confirm, if l.state = .unknown then l.side.code else 0xFF, byteOf l.faults] ++
      writeLimits l ++ orAbsent 2 twoBytes l.lastSample ++
      orAbsent 6 (fun e => e.1.code :: writeMinute e.2) l.lastEvent)

end Sys2Proof.Machine
end

