-- ==== Sys2Proof/Machine/Switching.lean ====
section
/-! DEFINITION. The Switching Engine (Chapter 5): channel configuration, switching slots and grants, the instants of an
operation, its completion, entering BACKUP, and the commands CONFIGURE_CHANNEL and SET_STAGGER. -/

namespace Sys2Proof.Machine

/-! ## Configuration (R83, R84) -/

/-- Is an operation of the channel in flight (R86)? -/
def SwitchState.inFlight : SwitchState → Bool
  | .issued _ => true
  | .pulsing _ => true
  | _ => false

/-- The driven state that a channel takes with a new kind (R84). -/
def ChannelKind.freshDriven : ChannelKind → Driven
  | .bi => .unknown
  | _ => .off

/-- Add DRIVEN_CHANGED if the driven state of a channel differs from one held before (R84, R99). -/
def State.reportDriven (s : State) (c : Chan) (before : Driven) : State :=
  if (s.chan c).driven = before then s else s.raiseChannel c .drivenChanged

/-- A change of kind: both pins de-energized, the request removed, IDLE, a fresh driven state, no last completion (R84). -/
def State.changeKind (s : State) (c : Chan) (kind : ChannelKind) : State :=
  let before := (s.chan c).driven
  let s := s.dequeue c
  (s.setChan c { s.chan c with driven := kind.freshDriven, lastCompletion := none, pinA := false, pinB := false }).reportDriven
    c before

/-- The reconciliation test: a MONO or BI channel that is IDLE in RUN and out of step with its target is queued (R83, R89). -/
def State.reconcile (s : State) (c : Chan) : State :=
  let ch := s.chan c
  if ch.config.kind ≠ .unused ∧ ch.switch = .idle ∧ s.supply.state = .run ∧ ch.driven ≠ Driven.ofTarget ch.target then
    s.enqueue c
  else s

/-- Store a configuration with its effects in order (R83). -/
def State.applyConfig (s : State) (c : Chan) (cfg : ChannelConfig) : State :=
  let old := (s.chan c).config
  let s := s.setChan c { s.chan c with config := cfg }
  let s := if cfg.kind = old.kind then s else s.changeKind c cfg.kind
  let s := if cfg.rest = old.rest then s else s.retarget c
  s.reconcile c

/-- A channel with one configuration, as CONFIGURE_CHANNEL and a CHANNEL_CONFIG item carry them (R83, R101). -/
def configureItem (p : List Byte) (s : State) : Except Result (Chan × State) :=
  match p with
  | [channel, kind, rest, align, operate, release, pulse, d1, d0] =>
    match readChannelNo channel, readConfig kind rest align operate release pulse d1 d0 with
    | some c, some cfg => if (s.chan c).switch.inFlight then .error .wrongState else .ok (c, s.applyConfig c cfg)
    | _, _ => .error .badField
  | _ => .error .badLength

/-- CONFIGURE_CHANNEL (R83). -/
def cmdConfigureChannel (p : List Byte) (s : State) : Answer :=
  check (!s.loadRunning) .busy <|
    match configureItem p s with
    | .error r => .error r
    | .ok (c, s') =>
      .ok (s', [if (s'.chan c).target then 1 else 0, (s'.chan c).driven.code, (s'.chan c).switch.code])

/-- Is a stagger limit in range (R93)? -/
def staggerOk (n : Nat) : Bool := 1 ≤ n && n ≤ 16

/-- Store the stagger limit (R93). -/
def State.storeStagger (s : State) (n : Nat) : State := s.setEngine { s.engine with stagger := n }

/-- SET_STAGGER (R93). -/
def cmdSetStagger (p : List Byte) (s : State) : Answer :=
  match p with
  | [n] => check (staggerOk n.toNat) .badField <| .ok (s.storeStagger n.toNat, [n])
  | _ => .error .badLength

/-! ## Grants (R92, R94 to R96) -/

/-- Has a channel's dwell elapsed at an instant (R92)? -/
def Channel.dwellElapsed (ch : Channel) (now : Nat) : Bool :=
  match ch.lastCompletion with
  | none => true
  | some at_ => at_ + ch.config.dwell * Config.second ≤ now

/-- The delay of an operation, in crystal cycles (R94). -/
def ChannelConfig.delay (cfg : ChannelConfig) (intended : Bool) : Nat :=
  if cfg.kind = .bi || intended then tenths cfg.operateDelay else tenths cfg.releaseDelay

/-- Which half period after the last crossing is the target crossing: the first, from 1, that lies no earlier than `need` cycles
after it (R94). -/
def targetHalf (period need : Nat) : Nat := max 1 ((2 * need - 1 + period - 1) / period)

/-- The target crossing of an operation granted at `now`: the first predicted crossing that is no earlier than the grant plus the
delay, both in whole cycles (R94, R137; log 6). -/
def targetCrossing (lastCrossing period now delay : Nat) : Nat :=
  lastCrossing + halfPeriods (targetHalf period (now + delay - lastCrossing)) period

/-- The operation record of a grant at `now` on a channel, with the line's last crossing and last measured period if the operation
is aligned (R94, R95, R96). The target crossing and the delay are each rounded to whole cycles before one is taken from the other, where
R124 leaves open at which step the action instant is rounded (log 6). -/
def Channel.operation (ch : Channel) (now : Nat) (line : Option (Nat × Nat)) : Operation :=
  let delay := ch.config.delay ch.target
  let bi := ch.config.kind = .bi
  let pin : DrivePin := if bi ∧ !ch.target then .b else .a
  match line with
  | some (crossing, period) =>
    let c := targetCrossing crossing period now delay
    { intended := ch.target, aligned := true, actionAt := c - delay,
      completeAt := if bi then c - delay + halfPeriods ch.config.pulseWidth period else c, pin := pin, acted := false }
  | none =>
    { intended := ch.target, aligned := false, actionAt := now,
      completeAt := if bi then now + millis (10 * ch.config.pulseWidth) else now + delay, pin := pin, acted := false }

/-- The figures that an operation of a channel granted now is aligned by, if it is aligned: its align setting is on and the line is
LOCKED (R94). -/
def State.alignment (s : State) (c : Chan) : Option (Nat × Nat) :=
  if (s.chan c).config.align ∧ s.line.state = .locked then
    match s.line.lastCrossing, s.line.lastPeriod with
    | some crossing, some period => some (crossing, period)
    | _, _ => none
  else none

/-- Grant a channel's request: the channel becomes ISSUED with its operation record (R91, R94). -/
def State.grant (s : State) (c : Chan) : State :=
  s.setSwitch c (.issued ((s.chan c).operation s.cycles (s.alignment c)))

/-- Scan the requests from the head: grant each whose dwell has elapsed while `room` grants are left. The result is the state and the
requests that stay, in order (R91). -/
def scanQueue (s : State) : List Chan → Nat → State × List Chan
  | [], _ => (s, [])
  | c :: cs, 0 => (s, c :: cs)
  | c :: cs, room + 1 =>
    if (s.chan c).dwellElapsed s.cycles then scanQueue (s.grant c) cs room
    else
      let (s', kept) := scanQueue s cs (room + 1)
      (s', c :: kept)

/-- A switching slot: one scan under the stagger limit (R91). -/
def State.switchingSlot (s : State) : State :=
  let (s', kept) := scanQueue s s.engine.queue s.engine.stagger
  s'.setEngine { s'.engine with queue := kept }

/-! ## The crystal tick (R90) -/

/-- Is the next crystal tick due: the whole multiples of 10 ms of crystal time since power-up, while the crystal runs (R90)? -/
def State.tickDue (s : State) : Bool :=
  !s.supply.stopped && s.time.crystalRunning && millis (10 * s.engine.nextTick) ≤ s.cycles

/-- The crystal tick: a switching slot while the line is not LOCKED. It keeps its phase whatever the line does (R90). -/
def State.crystalTick (s : State) : State :=
  if s.tickDue then
    let s := s.setEngine { s.engine with nextTick := s.engine.nextTick + 1 }
    if s.line.state = .locked then s else s.switchingSlot
  else s

/-! ## The instants of an operation (R95, R96, R98) -/

/-- Set one driver pin of a channel. -/
def Channel.drive (ch : Channel) (pin : DrivePin) (level : Bool) : Channel :=
  match pin with
  | .a => { ch with pinA := level }
  | .b => { ch with pinB := level }

/-- The MONO operation of a channel whose coil action is due (R95). -/
def State.coilDue (s : State) (c : Chan) : Option Operation :=
  match (s.chan c).switch with
  | .issued op => if (s.chan c).config.kind = .mono ∧ !op.acted ∧ op.actionAt ≤ s.cycles then some op else none
  | _ => none

/-- The coil action: DRVnA is energized for ON and de-energized for OFF (R95). -/
def State.coilAction (s : State) (c : Chan) : State :=
  match s.coilDue c with
  | some op => s.setChan c (({ s.chan c with switch := .issued { op with acted := true } }).drive op.pin op.intended)
  | none => s

/-- The BI operation of a channel whose pulse start is due (R96). -/
def State.pulseDue (s : State) (c : Chan) : Option Operation :=
  match (s.chan c).switch with
  | .issued op => if (s.chan c).config.kind = .bi ∧ op.actionAt ≤ s.cycles then some op else none
  | _ => none

/-- The pulse start: the pin is energized and the channel becomes PULSING (R96). -/
def State.pulseStart (s : State) (c : Chan) : State :=
  match s.pulseDue c with
  | some op => s.setChan c (({ s.chan c with switch := .pulsing op }).drive op.pin true)
  | none => s

/-- The operation of a channel whose completion is due: a MONO one that has taken its coil action, or a BI one that is PULSING
(R95, R96). -/
def State.completionDue (s : State) (c : Chan) : Option Operation :=
  match (s.chan c).switch with
  | .issued op => if (s.chan c).config.kind = .mono ∧ op.acted ∧ op.completeAt ≤ s.cycles then some op else none
  | .pulsing op => if op.completeAt ≤ s.cycles then some op else none
  | _ => none

/-- The channel after the completion of an operation: a BI pulse ends, the driven state takes the intended state, the completion
instant is kept, and the channel is IDLE (R96, R98). -/
def Channel.completed (ch : Channel) (op : Operation) : Channel :=
  let ch := if ch.config.kind = .bi then ch.drive op.pin false else ch
  { ch with driven := Driven.ofTarget op.intended, lastCompletion := some op.completeAt, switch := .idle }

/-- The completion of an operation, after which a channel whose target has moved on joins the queue again (R98). -/
def State.complete (s : State) (c : Chan) : State :=
  match s.completionDue c with
  | some op =>
    let s := (s.setChan c ((s.chan c).completed op)).raiseChannel c .drivenChanged
    if (s.chan c).driven = Driven.ofTarget (s.chan c).target then s else s.enqueue c
  | none => s

/-! ## Supply transitions (R89, R99) -/

/-- The driven state of a channel after entering BACKUP (R99). -/
def Channel.abandonedDriven (ch : Channel) : Driven :=
  match ch.config.kind, ch.switch with
  | .bi, .pulsing _ => .unknown
  | .bi, _ => ch.driven
  | _, _ => .off

/-- Entering BACKUP at one channel: any operation abandoned, IDLE, both pins de-energized (R99). -/
def State.abandon (s : State) (c : Chan) : State :=
  let ch := s.chan c
  (s.setChan c { ch with driven := ch.abandonedDriven, switch := .idle, pinA := false, pinB := false }).reportDriven c ch.driven

/-- Entering BACKUP at the Switching Engine (R99). -/
def State.abandonAll (s : State) : State :=
  let s := s.forEach allChannels State.abandon
  s.setEngine { s.engine with queue := [] }

/-- The entry to RUN at the Switching Engine: every MONO or BI channel out of step with its target joins the queue, in ascending
order (R89). -/
def State.reconcileAll (s : State) : State := s.forEach allChannels State.reconcile

end Sys2Proof.Machine
end

