-- ==== Sys2Proof/Machine/TimeLine.lean ====
section
/-! DEFINITION. The Time Base and the Line Monitor (Chapter 8): the sources of seconds, the second boundary, the crystal, the
classification of mains cycles, and the time and line commands. -/

namespace Sys2Proof.Machine

/-! ## Time validity and the active source (R125, R126) -/

/-- VALID time becomes DOUBTFUL, with TIME_VALIDITY (R125). -/
def State.makeDoubtful (s : State) : State :=
  if s.timeValid then (s.setTimeBase { s.time with validity := .doubtful }).raiseSystem .timeValidity else s

/-- The active source that the preference and the line state judge (R126). -/
def State.judgedSource (s : State) : TimeSource :=
  if s.time.preference = .auto ∧ s.line.state = .locked then .line else .crystal

/-- The line divisor N: the verdict, 50 or 60 (R126). -/
def State.verdictHertz (s : State) : Nat :=
  match s.line.verdict with
  | some v => v.hertz
  | none => 50

/-- Hand over from the crystal to the line, carrying the fraction of the second (R126). -/
def State.handToLine (s : State) : State :=
  let n := s.verdictHertz
  s.setTimeBase { s.time with source := .line, divisor := some n, elapsed := s.time.elapsed * n / Config.second }

/-- Hand over from the line to the crystal, carrying the fraction of the second; VALID time becomes DOUBTFUL if the crystal is
STOPPED (R125, R126). -/
def State.handToCrystal (s : State) : State :=
  let n := s.time.divisor.getD 50
  let s := s.setTimeBase
    { s.time with source := .crystal, divisor := none, elapsed := s.time.elapsed * Config.second / n }
  if s.time.crystalRunning then s else s.makeDoubtful

/-- Judge the active source afresh and hand over if the judgement differs from the source held (R126). -/
def State.judgeSource (s : State) : State :=
  if s.judgedSource = s.time.source then s
  else
    match s.judgedSource with
    | .line => s.handToLine
    | .crystal => s.handToCrystal

/-! ## The second boundary (R122, R127, R128) -/

/-- The count at which a second ends on the active source (R127). -/
def TimeBase.limit (t : TimeBase) : Nat :=
  match t.source with
  | .crystal => Config.second
  | .line => t.divisor.getD 50

/-- Is a second boundary due: has the elapsed count reached its limit? -/
def State.secondDue (s : State) : Bool := !s.supply.stopped && s.time.limit ≤ s.time.elapsed

/-- A second boundary: the elapsed count returns to 0, the seconds advance, and a roll from 59 to 0 hands a minute tick to the
Schedule Table and the Claim Manager; at the wrap of the calendar VALID time first becomes DOUBTFUL (R122, R127, R128). On the
line N is taken afresh from the verdict. -/
def State.secondBoundary (s : State) : State :=
  if s.secondDue then
    let t := s.time
    let s := if t.time.wraps then s.makeDoubtful else s
    s.setTimeBase { s.time with
      time := t.time.nextSecond
      elapsed := t.elapsed - t.limit
      divisor := if t.source = .line then some s.verdictHertz else none
      tableTickOwed := t.tableTickOwed || t.time.rollsMinute
      claimTickOwed := t.claimTickOwed || t.time.rollsMinute }
  else s

/-! ## The crystal (R124) -/

/-- The detector declares the crystal STOPPED: the measure start becomes absent, and VALID time on the crystal source becomes
DOUBTFUL (R124, R125, R132). The 2 ms without a cycle pass on the oscillator. -/
def State.stopCrystal (s : State) : State :=
  if s.supply.stopped || !s.time.crystalRunning then s
  else
    let s := s.setClocks s.cycles (s.osc + Config.detectorPeriods)
    let s := s.setTimeBase { s.time with crystalRunning := false }
    let s := s.setLine { s.line with measureStart := none }
    if s.time.source = .crystal then s.makeDoubtful else s

/-- The detector declares the crystal RUNNING: the absence timer runs from now, and the next photocell sample falls one second
from now (R111, R136). R124 lets both go on from where they stood; the model follows the rules of the two blocks (log 17). The
first cycle, at which RUNNING is declared, is not itself counted (log 21). -/
def State.runCrystal (s : State) : State :=
  if s.supply.stopped || s.time.crystalRunning then s
  else
    let s := s.setTimeBase { s.time with crystalRunning := true }
    let s := s.setLine { s.line with absenceFrom := s.cycles }
    s.setLight { s.light with nextSample := s.cycles + Config.second }

/-! ## The Line Monitor (R132 to R137) -/

/-- The class of a cycle of `n` crystal cycles; OUT is `none` (R132). -/
def cycleClass (n : Nat) : Option LineClass :=
  if 492 ≤ n && n ≤ 589 then some .sixty else if 590 ≤ n && n ≤ 720 then some .fifty else none

/-- A classified cycle in ACQUIRING (R134). -/
def LineMonitor.acquire (l : LineMonitor) (n : Nat) : LineMonitor :=
  match cycleClass n with
  | none => { l with counting := none, agreement := 0 }
  | some k =>
    let agreement := if l.counting = some k then l.agreement + 1 else 1
    if l.confirmCount ≤ agreement then
      { l with state := .locked, verdict := some k, disagreement := 0, agreement := 0, counting := none, lastPeriod := some n }
    else { l with counting := some k, agreement := agreement, lastPeriod := some n }

/-- A classified cycle in LOCKED (R135). -/
def LineMonitor.compare (l : LineMonitor) (n : Nat) : LineMonitor :=
  if cycleClass n ≠ none ∧ cycleClass n = l.verdict then { l with disagreement := 0, lastPeriod := some n }
  else if l.confirmCount ≤ l.disagreement + 1 then
    { l with state := .acquiring, counting := none, agreement := 0, verdict := none, disagreement := 0 }
  else { l with disagreement := l.disagreement + 1 }

/-- A classified cycle in each line state. -/
def LineMonitor.classify (l : LineMonitor) (n : Nat) : LineMonitor :=
  match l.state with
  | .absent => l
  | .acquiring => l.acquire n
  | .locked => l.compare n

/-- A rising crossing at `now` in the Line Monitor's own state: ABSENT becomes ACQUIRING, a cycle with a measure start is classified,
and the crossing becomes the last crossing, the instant of the absence timer and, while the crystal runs, the next measure start
(R132, R134 to R136). -/
def LineMonitor.rise (l : LineMonitor) (now : Nat) (crystalRunning : Bool) : LineMonitor :=
  let l :=
    match l.state, l.measureStart with
    | .absent, _ => { l with state := .acquiring, counting := none, agreement := 0 }
    | _, some m => if crystalRunning then l.classify (now - m) else l
    | _, none => l
  { l with measureStart := if crystalRunning then some now else none, lastCrossing := some now, absenceFrom := now }

/-- Replace the Line Monitor, adding LINE if the line state has changed (R134 to R137). -/
def State.updateLine (s : State) (l : LineMonitor) : State :=
  let before := s.line.state
  let s := s.setLine l
  if l.state = before then s else s.raiseSystem .line

/-- Are crossings of LINE taken: the supply RUN or RESTORING (R133)? -/
def State.lineSensed (s : State) : Bool := s.supply.state != .backup

/-- A rising crossing: the Line Monitor first; then the Time Base, which judges its source if LOCKED was entered or left, and counts
the crossing if it found LOCKED, left it LOCKED and the source is LINE; then the Switching Engine, to which such a crossing is a
slot (R127, R137). -/
def State.risingCrossing (s : State) : State :=
  if s.lineSensed then
    let before := s.line.state
    let s := (s.updateLine (s.line.rise s.cycles s.time.crystalRunning)).judgeSource
    if before = .locked ∧ s.line.state = .locked then
      let s := if s.time.source = .line then s.setTimeBase { s.time with elapsed := s.time.elapsed + 1 } else s
      s.switchingSlot
    else s
  else s

/-- A falling crossing: recorded as the last crossing, and a slot while LOCKED (R132, R137). -/
def State.fallingCrossing (s : State) : State :=
  if s.lineSensed then
    let s := s.setLine { s.line with lastCrossing := some s.cycles }
    if s.line.state = .locked then s.switchingSlot else s
  else s

/-- The Line Monitor in ABSENT, its settings kept (R133, R136). -/
def LineMonitor.gone (l : LineMonitor) : LineMonitor :=
  { LineMonitor.cold with confirmCount := l.confirmCount, absenceFrom := l.absenceFrom }

/-- Have 60 ms passed with no rising crossing, in ACQUIRING or LOCKED (R136)? -/
def State.absenceDue (s : State) : Bool :=
  s.lineSensed && s.time.crystalRunning && s.line.state != .absent && s.line.absenceFrom + Config.absenceCycles ≤ s.cycles

/-- The expiry of the absence timer (R136). -/
def State.absenceTimeout (s : State) : State :=
  if s.absenceDue then (s.updateLine s.line.gone).judgeSource else s

/-- Entering BACKUP at the Line Monitor and the Time Base (R140). -/
def State.loseLine (s : State) : State := (s.updateLine s.line.gone).judgeSource

/-! ## Commands -/

/-- Read the calendar time of SET_TIME; the weekday is not examined (R129). -/
def readTime (y m d h mi sec : Byte) : Option CalTime :=
  match readDate y m d, readTod h mi with
  | some date, some tod => if sec.toNat ≤ 59 then some ⟨date, tod, sec.toNat⟩ else none
  | _, _ => none

/-- SET_TIME's work in order: the Time Base, the Exception Calendar, the Schedule Table (R129). A minute tick handed on and not yet
taken no longer arrives. -/
def State.takeTime (s : State) (t : CalTime) : State :=
  let wasValid := s.timeValid
  let s := s.setTimeBase { s.time with
    time := t, elapsed := 0, validity := .valid, tableTickOwed := false, claimTickOwed := false }
  let s := if wasValid then s else s.raiseSystem .timeValidity
  s.calendarDayWork.setTimeSchedule

/-- SET_TIME: the calendar time set, with its weekday, and the validity (R129; log 12). -/
def cmdSetTime (p : List Byte) (s : State) : Answer :=
  match p with
  | [y, m, d, h, mi, sec, _] =>
    match readTime y m d h mi sec with
    | none => .error .badField
    | some t =>
      check (s.time.crystalRunning || s.time.source != .crystal) .wrongState <|
        let s' := s.takeTime t
        .ok (s', writeTime t ++ [s'.time.validity.code])
  | _ => .error .badLength

/-- READ_TIME: the calendar time with its weekday, validity, preference, source, crystal state (R131; log 12). -/
def cmdReadTime (p : List Byte) (s : State) : Answer :=
  check p.isEmpty .badLength <|
    .ok (s, writeTime s.time.time ++ [s.time.validity.code, s.time.preference.code, s.time.source.code,
      if s.time.crystalRunning then 0 else 1])

/-- A preference, as SET_TIME_SOURCE and a TIME_SOURCE item carry it (R130, R140). -/
def timeSourceItem (p : List Byte) (s : State) : Except Result State :=
  match p with
  | [b] =>
    if b == 0 then .ok (s.setTimeBase { s.time with preference := .auto }).judgeSource
    else if b == 1 then .ok (s.setTimeBase { s.time with preference := .crystal }).judgeSource
    else .error .badField
  | _ => .error .badLength

/-- SET_TIME_SOURCE (R130). -/
def cmdSetTimeSource (p : List Byte) (s : State) : Answer :=
  match timeSourceItem p s with
  | .error r => .error r
  | .ok s' => .ok (s', [s'.time.preference.code, s'.time.source.code])

/-- A confirm count K, as SET_LINE_CONFIRM and a LINE_CONFIRM item carry it (R138, R140). -/
def lineConfirmItem (p : List Byte) (s : State) : Except Result State :=
  match p with
  | [k] =>
    if 4 ≤ k.toNat && k.toNat ≤ 63 then .ok (s.setLine { s.line with confirmCount := k.toNat }) else .error .badField
  | _ => .error .badLength

/-- SET_LINE_CONFIRM (R138). -/
def cmdSetLineConfirm (p : List Byte) (s : State) : Answer :=
  match lineConfirmItem p s with
  | .error r => .error r
  | .ok s' => .ok (s', [byteOf s'.line.confirmCount, s'.line.state.code])

/-- A field that is sent in one line state alone. -/
def LineMonitor.when (l : LineMonitor) (st : LineState) (b : Byte) : Byte := if l.state = st then b else 0xFF

/-- A counting class or verdict by its place in its rule's list: none, 50, 60 (R133; Chapter 12, code tables). -/
def writeClass (k : Option LineClass) : Byte :=
  match k with
  | none => 0
  | some .fifty => 1
  | some .sixty => 2

/-- READ_LINE (R139). An item that its line state does not give is sent as absent (R190). -/
def cmdReadLine (p : List Byte) (s : State) : Answer :=
  check p.isEmpty .badLength <|
    let l := s.line
    .ok (s, [l.state.code, l.when .locked (writeClass l.verdict), l.when .acquiring (writeClass l.counting),
      l.when .acquiring (byteOf l.agreement), l.when .locked (byteOf l.disagreement), byteOf l.confirmCount] ++
      orAbsent 2 twoBytes l.lastPeriod)

end Sys2Proof.Machine
end

