-- ==== Sys2Proof/Machine/Store.lean ====
section
/-! DEFINITION. The Default Program Store (Chapter 10): programming the array, the phases of a load, and the commands READ_STORE,
PROGRAM_STORE, LOAD_DEFAULTS and LOAD_STATUS. -/

namespace Sys2Proof.Machine

/-- Replace the load record. -/
def State.setLoad (s : State) (l : LoadRecord) : State := s.setStore { s.store with load := l }

/-- Replace the programming record. -/
def State.setProgramming (s : State) (p : Option Programming) : State := s.setStore { s.store with programming := p }

/-- Replace the array. -/
def State.setArray (s : State) (a : List Host.Cell) : State := s.setStore { s.store with array := a }

/-! ## Reading and programming the array (R155, R156, R158) -/

/-- Do an offset and a byte count lie inside the array, the count at most `most` (R156, R158)? -/
def rangeOk (offset count most : Nat) : Bool :=
  1 ≤ count && count ≤ most && offset < Config.storeBytes && offset + count ≤ Config.storeBytes

/-- READ_STORE (R158). -/
def cmdReadStore (p : List Byte) (s : State) : Answer :=
  match p with
  | [o1, o0, n] =>
    let offset := natOf o1 o0
    check (rangeOk offset n.toNat 64) .badField <|
      .ok (s, twoBytes offset ++ [n] ++ readCells s.store.array offset n.toNat)
  | _ => .error .badLength

/-- PROGRAM_STORE at its take: a refusal, or the programming record with the executor BUSY (R156, R177). -/
def cmdProgramStore (p : List Byte) (tag : Byte) (s : State) : Except Result State :=
  if s.loadRunning then .error .busy
  else
    match p with
    | o1 :: o0 :: n :: values =>
      if values.length ≠ n.toNat then .error .badLength
      else if rangeOk (natOf o1 o0) n.toNat 32 then
        .ok ((s.setProgramming (some ⟨natOf o1 o0, values, 0, tag, s.osc, false⟩)).setPort { s.port with executorBusy := true })
      else .error .badField
    | _ => .error .badLength

/-- Is the millisecond of the byte in flight over, on the on-chip oscillator (R154, R155)? A millisecond is 4096/125 periods. -/
def Programming.byteDue (pr : Programming) (osc : Nat) : Bool := 4096 * (pr.done + 1) ≤ 125 * (osc - pr.startedAt)

/-- The array after the byte in flight is programmed (R155). -/
def Programming.burn (pr : Programming) (array : List Host.Cell) : List Host.Cell :=
  programCell array (pr.offset + pr.done) (pr.values.getD pr.done Config.erasedByte)

/-- The places, from 0, at which the array differs from the bytes a PROGRAM_STORE asked for (R156). -/
def Programming.mismatches (pr : Programming) (array : List Host.Cell) : List Nat :=
  (List.range pr.values.length).filter fun k =>
    readCell array (pr.offset + k) != pr.values.getD k Config.erasedByte

/-- The reply of a PROGRAM_STORE at its completion (R156, R190). -/
def Programming.report (pr : Programming) (array : List Host.Cell) : Reply :=
  let head := twoBytes pr.offset ++ [byteOf pr.values.length]
  match pr.mismatches array with
  | [] => ⟨pr.tag, 0x69, .ok, head⟩
  | k :: ks => ⟨pr.tag, 0x69, .mismatch, head ++ [byteOf (ks.length + 1)] ++ twoBytes (pr.offset + k)⟩

/-! ## Validation (R159) -/

/-- A number of two bytes in the array. -/
def readWord (array : List Host.Cell) (offset : Nat) : Nat := natOf (readCell array offset) (readCell array (offset + 1))

/-- The item count and the item bytes length L of the header. -/
def readHeader (array : List Host.Cell) : StoreHeader := ⟨readWord array 3, readWord array 5⟩

/-- Walk the item chain from `offset`: exactly `items` items that end exactly at `finish` (R159). A length byte of 0xFF fails the walk,
whatever follows it (R192; log 7). -/
def chainOk (array : List Host.Cell) (finish : Nat) : (items offset : Nat) → Bool
  | 0, offset => offset == finish
  | items + 1, offset =>
    let length := readCell array (offset + 1)
    let next := offset + 2 + length.toNat
    if length != Config.erasedByte && offset + 2 ≤ finish && next ≤ finish then chainOk array finish items next else false

/-- The header's tests before LENGTH is passed: the first that fails (R159). -/
def frontTests (array : List Host.Cell) : Option BadReason :=
  if readCell array 0 != 0x5A || readCell array 1 != 0xC3 then some .marker
  else if readCell array 2 != 1 || (readCells array 9 7).any (· != 0xFF) then some .format
  else if 2032 < (readHeader array).length then some .length
  else none

/-- The header's tests in order: the first that fails (R159). -/
def headerTests (array : List Host.Cell) : Option BadReason :=
  match frontTests array with
  | some r => some r
  | none =>
    let h := readHeader array
    if (crc16 (readCells array 16 h.length)).toNat != readWord array 7 then some .crc
    else if chainOk array (16 + h.length) h.items 16 then none
    else some .chain

/-! ## The end of a load (R149, R159, R162) -/

/-- A load ends, DONE or STORE_BAD, with the record given: load-pending is cleared and LOAD_DONE added. -/
def State.endLoad (s : State) (l : LoadRecord) : State :=
  ((s.setLoad l).setSupply { s.supply with loadPending := false }).raiseSystem .loadDone

/-- A load completes (R162). -/
def State.completeLoad (s : State) : State := s.endLoad { s.store.load with state := .done, phase := none, next := none }

/-! ## The start of a load (R159, R160) -/

/-- The load record at the start of a load (R159). -/
def LoadRecord.fresh (source : LoadSource) (array : List Host.Cell) (osc : Nat) : LoadRecord where
  state := .running
  source := some source
  phase := some .validate
  next := some ⟨0, 16⟩
  applied := 0
  rejected := 0
  firstRejection := none
  badReason := none
  header := if frontTests array = none then some (readHeader array) else none
  startedAt := osc

/-- The retire phase: every entry of origin STORE is retired in slot order, then every exception of origin STORE removed (R160). -/
def State.retirePhase (s : State) : State :=
  (s.forEach allSlots State.retireStored).keepRecords fun r => r.origin != .store

/-- The start of a load: validation, and with a good header the retire phase, at one instant. A bad store ends the load; its next
item and phase become absent (R159, R160; log 13). -/
def State.startLoad (s : State) (source : LoadSource) : State :=
  let l := LoadRecord.fresh source s.store.array s.osc
  match headerTests s.store.array with
  | some r => s.endLoad { l with state := .storeBad, phase := none, next := none, badReason := some r }
  | none =>
    let s := (s.setLoad { l with phase := some .retire }).retirePhase
    let s := s.setLoad { l with phase := some .apply }
    if (readHeader s.store.array).items = 0 then s.completeLoad else s

/-! ## Items (R152, R161, R192) -/

/-- Store the restore delay (R150). -/
def State.storeDelay (s : State) (n : Nat) : State := s.setSupply { s.supply with restoreDelay := n }

/-- A restore delay with a stagger limit, checked whole before either is stored (R152). -/
def supplyItem (p : List Byte) (s : State) : Except Result State :=
  match p with
  | [delay, stagger] =>
    if staggerOk stagger.toNat then .ok ((s.storeDelay delay.toNat).storeStagger stagger.toNat) else .error .badField
  | _ => .error .badLength

/-- An entry body of origin STORE (R25). -/
def entryItem (p : List Byte) (s : State) : Except Result State :=
  if bodyLengthOk p then
    match readBody p with
    | none => .error .badField
    | some b =>
      match s.makeEntry .store b with
      | .error r => .error r
      | .ok (_, s') => .ok s'
  else .error .badLength

/-- An item handed to its block. A type outside 0x01..0x08 is rejected BAD_FIELD, a wrong body length BAD_LENGTH, and the rest is
judged as the matching command judges its parameters (R161, R192). -/
def applyItem (type : Byte) (body : List Byte) (s : State) : Except Result State :=
  match type.toNat with
  | 1 => (configureItem body s).map (·.2)
  | 2 => entryItem body s
  | 3 => addExceptionItem .store body s
  | 4 => lightLimitsItem body s
  | 5 => (buttonItem body s).map (·.2)
  | 6 => lineConfirmItem body s
  | 7 => supplyItem body s
  | 8 => timeSourceItem body s
  | _ => .error .badField

/-! ## The apply phase (R161, R162) -/

/-- The item of a running load that is due: item i, 0.5 ms times i + 1 after the start on the on-chip oscillator. Half a millisecond
is 2048/125 periods (R154, R161). -/
def State.loadStepDue (s : State) : Option NextItem :=
  let l := s.store.load
  match l.next with
  | some n =>
    if l.state = .running ∧ l.phase = some .apply ∧ 2048 * (n.index + 1) ≤ 125 * (s.osc - l.startedAt) then some n else none
  | none => none

/-- The load record after an item is applied or rejected (R161). -/
def LoadRecord.count (l : LoadRecord) (n : NextItem) (type : Byte) (outcome : Option Result) (next : Nat) : LoadRecord :=
  let l := { l with next := some ⟨n.index + 1, next⟩ }
  match outcome with
  | none => { l with applied := l.applied + 1 }
  | some r =>
    { l with
      rejected := l.rejected + 1
      firstRejection := match l.firstRejection with
        | some f => some f
        | none => some ⟨n.index, type, r⟩ }

/-- Was that the last item? -/
def LoadRecord.finished (l : LoadRecord) (n : NextItem) : Bool :=
  match l.header with
  | some h => h.items ≤ n.index + 1
  | none => true

/-- A step of the apply phase: one item applied or rejected, then the next item, or the end of the load after the last
(R161, R162). -/
def State.loadStep (s : State) : State :=
  match s.loadStepDue with
  | none => s
  | some n =>
    let array := s.store.array
    let type := readCell array n.offset
    let length := (readCell array (n.offset + 1)).toNat
    let next := n.offset + 2 + length
    let s :=
      match applyItem type (readCells array (n.offset + 2) length) s with
      | .ok s' => s'.setLoad (s'.store.load.count n type none next)
      | .error r => s.setLoad (s.store.load.count n type (some r) next)
    if s.store.load.finished n then s.completeLoad else s

/-! ## Entering BACKUP (R144, R157, R166) -/

/-- A running load is abandoned: INTERRUPTED, the phase absent, load-pending set (R144, R166). -/
def State.interruptLoad (s : State) : State :=
  if s.loadRunning then
    (s.setLoad { s.store.load with state := .interrupted, phase := none }).setSupply { s.supply with loadPending := true }
  else s

/-- A PROGRAM_STORE in progress is cut short: the byte in flight is left at its old or at its programmed value, as a FREE VALUE says
(R157; log 1). -/
def State.cutProgramming (s : State) : State :=
  match s.store.programming with
  | none => s
  | some pr =>
    let array := if Config.backupByteProgrammed s.freeIndex then pr.burn s.store.array else s.store.array
    ((s.setArray array).setProgramming none).setFreeIndex (s.freeIndex + 1)

/-! ## Commands -/

/-- LOAD_DEFAULTS (R164). Its reply is ACCEPTED with no payload. -/
def cmdLoadDefaults (p : List Byte) (s : State) : Answer :=
  check p.isEmpty .badLength <| check (!s.loadRunning) .busy <| .ok (s.startLoad .host, [])

/-- LOAD_STATUS (R165). The next item is also sent while the status is INTERRUPTED, as R166 gives (log 13). -/
def cmdLoadStatus (p : List Byte) (s : State) : Answer :=
  check p.isEmpty .badLength <|
    let l := s.store.load
    .ok (s, [l.state.code] ++ orAbsent 1 (fun x => [LoadSource.code x]) l.source ++
      orAbsent 1 (fun x => [LoadPhase.code x]) l.phase ++
      orAbsent 4 (fun x : NextItem => twoBytes x.index ++ twoBytes x.offset) l.next ++
      twoBytes l.applied ++ twoBytes l.rejected ++
      orAbsent 4 (fun x : Rejection => twoBytes x.index ++ [x.type, x.result.code]) l.firstRejection ++
      orAbsent 1 (fun x => [BadReason.code x]) l.badReason ++
      orAbsent 4 (fun x : StoreHeader => twoBytes x.items ++ twoBytes x.length) l.header ++
      writeFlag s.supply.loadPending)

end Sys2Proof.Machine
end

