-- ==== Sys2Proof/Machine/Supply.lean ====
section
/-! DEFINITION. The Supply Controller (Chapter 9): entering BACKUP, the return of the mains, cold start and power-up, the restore
countdown, and the commands SET_SUPPLY and READ_SUPPLY. -/

namespace Sys2Proof.Machine

/-! ## Entering BACKUP (R144) -/

/-- Entering BACKUP at the Supply Controller (R141, R144). -/
def SupplyController.fail (c : SupplyController) (now : CalMinute) : SupplyController :=
  { c with state := .backup, countdown := none, backupCount := min 65535 (c.backupCount + 1), lastFailure := some now }

/-- The port with its queues emptied, its executor IDLE, its discard flag clear and no transaction (R174, R175, R179). -/
def HostPort.quiet (p : HostPort) : HostPort :=
  { p with requests := [], replies := [], executorBusy := false, discard := false, transaction := none }

/-- VMAIN falls below 2.9 V in RUN or RESTORING, and every block takes the entry to BACKUP (R99, R107, R120, R140, R144, R157, R166,
R179). -/
def State.enterBackup (s : State) : State :=
  if s.supply.state = .backup then s
  else
    let s := s.interruptLoad
    let s := (s.setSupply (s.supply.fail s.now)).raiseSystem .supply
    let s := (s.setPort s.port.quiet).cutProgramming
    let s := s.abandonAll.loseLine.darkenLight
    s.forEach allButtons State.releaseButton

/-! ## Cold-start values (R143, R146) -/

/-- The cold-start values of every block but the Supply Controller, with an empty change set. The array of the store, the clocks, the
phase of the crystal tick, the crystal, the levels of the pins and the model's own fields stand as they are (R146, R154). The level
last sampled of each button takes the pin's level, for which the spec gives no value in BACKUP (log 5); the entry to RESTORING samples it
afresh (R107). -/
def State.coldValues (s : State) : State :=
  { s with
    table := ScheduleTable.cold
    calendar := ExceptionCalendar.cold
    channels := Vector.replicate 16 Channel.cold
    freeCount := Config.poolRecords
    engine := ⟨[], 4, s.engine.nextTick⟩
    buttons := s.buttons.map fun b => Button.cold b.pinLow
    light := LightMonitor.cold (s.cycles + Config.second)
    time := TimeBase.cold s.time.crystalRunning
    line := LineMonitor.cold
    store := ⟨s.store.array, LoadRecord.cold, none⟩
    port := HostPort.cold s.port.csnLow s.port.prstnLow [] }

/-- A cold start: every block at its cold-start values, the change set holding SYSTEM with COLD_START alone, the signature VALID and
load-pending set (R146). -/
def State.coldStart (s : State) : State :=
  (s.coldValues.setSupply (SupplyController.cold (s.cycles + Config.second))).raiseSystem .coldStart

/-- The Supply Controller after a power-up: cold-start values, but BACKUP, no countdown and the signature INVALID (R143). -/
def SupplyController.powered : SupplyController :=
  { SupplyController.cold 0 with state := .backup, countdown := none, signatureValid := false }

/-- A power-up: crystal time begins at 0, and every block takes its cold-start values with the supply in BACKUP (R90, R143). -/
def State.powerUpValues (s : State) (crystalRuns : Bool) : State :=
  let s := (s.setClocks 0 0).setEngine { s.engine with nextTick := 1 }
  let s := s.setTimeBase { s.time with crystalRunning := crystalRuns }
  s.coldValues.setSupply SupplyController.powered

/-! ## RUN (R148) -/

/-- The entry to RUN: no countdown, the last return, SUPPLY, and the reconciliation of every channel (R89, R148). -/
def State.enterRun (s : State) : State :=
  ((s.setSupply { s.supply with state := .run, countdown := none, lastReturn := some s.now }).raiseSystem
    .supply).reconcileAll

/-! ## RESTORING (R145, R147) -/

/-- A warm restore: RESTORING with the kind WARM, and SUPPLY (R145). -/
def State.warmRestore (s : State) : State :=
  (s.setSupply { s.supply with state := .restoring, restoreKind := .warm }).raiseSystem .supply

/-- The entry to RESTORING: a warm restore or a cold start; the countdown loaded and started; the port active with empty queues; the
buttons sampled and the first photocell sample a second away; a load if one is owed; and RUN at once if the delay is 0 (R107, R111,
R145, R147, R149, R179). -/
def State.enterRestoring (s : State) : State :=
  let s := if s.supply.signatureValid then s.warmRestore else s.coldStart
  let s := s.setSupply { s.supply with
    countdown := some s.supply.restoreDelay, countdownDue := s.cycles + Config.second }
  let s := (s.setPort s.port.quiet).setLight { s.light with nextSample := s.cycles + Config.second }
  let s := s.forEach allButtons State.sampleButton
  let s := if s.supply.loadPending then s.startLoad .restore else s
  if s.supply.restoreDelay = 0 then s.enterRun else s

/-- VMAIN rises to 3.0 V in BACKUP. A retained domain that had stopped is powered up first (R143, R145; log 14). -/
def State.mainsReturn (s : State) : State :=
  if s.supply.state = .backup then
    if s.supply.stopped then (s.powerUpValues s.time.crystalRunning).enterRestoring else s.enterRestoring
  else s

/-- Is a second of the restore countdown over, on the crystal (R147)? -/
def State.countdownDue (s : State) : Bool :=
  s.supply.state == .restoring && s.time.crystalRunning && s.supply.countdownDue ≤ s.cycles &&
  match s.supply.countdown with
  | some n => n != 0
  | none => false

/-- A second of the restore countdown (R147). -/
def State.countdownSecond (s : State) : State :=
  if s.countdownDue then
    s.setSupply { s.supply with
      countdown := s.supply.countdown.map (· - 1), countdownDue := s.supply.countdownDue + Config.second }
  else s

/-- Has the restore countdown reached 0 (R147)? -/
def State.expiryDue (s : State) : Bool := s.supply.state == .restoring && s.supply.countdown == some 0

/-- The expiry of the restore countdown (R148). -/
def State.countdownExpiry (s : State) : State := if s.expiryDue then s.enterRun else s

/-! ## The retained domain (R143) -/

/-- The retained domain's supply falls below 2.0 V in BACKUP: the signature becomes INVALID and the domain stops. -/
def State.retainedLoss (s : State) : State :=
  if s.supply.state = .backup then s.setSupply { s.supply with signatureValid := false, stopped := true } else s

/-- The retained domain's supply rises through 2.0 V: a power-up, and the cold start at once if VMAIN is up (R143). -/
def State.powerUp (s : State) (vmainUp crystalRuns : Bool) : State :=
  if s.supply.stopped then
    let s := s.powerUpValues crystalRuns
    if vmainUp then s.enterRestoring else s
  else s

/-! ## Commands -/

/-- SET_SUPPLY (R150). -/
def cmdSetSupply (p : List Byte) (s : State) : Answer :=
  match p with
  | [delay] =>
    .ok (s.storeDelay delay.toNat, [delay, s.supply.state.code] ++ orAbsent 2 twoBytes s.supply.countdown)
  | _ => .error .badLength

/-- READ_SUPPLY (R151). -/
def cmdReadSupply (p : List Byte) (s : State) : Answer :=
  check p.isEmpty .badLength <|
    let c := s.supply
    .ok (s, [c.state.code, byteOf c.restoreDelay] ++ orAbsent 2 twoBytes c.countdown ++ writeFlag c.loadPending ++
      [c.restoreKind.code] ++ twoBytes c.backupCount ++ orAbsent 5 writeMinute c.lastFailure ++
      orAbsent 5 writeMinute c.lastReturn)

end Sys2Proof.Machine
end

