-- ==== Sys2Proof/Machine/Port.lean ====
section
/-! DEFINITION. The Host Port (Chapter 11): transactions, frames, the request and reply queues, the command executor, port reset, and
the commands READ_CHANGES, SET_NOTICE_MASK and IDENTIFY. -/

namespace Sys2Proof.Machine

/-! ## The port's own commands (R183, R185, R187) -/

/-- READ_CHANGES (R183). The change set is kept in read order. -/
def cmdReadChanges (p : List Byte) (s : State) : Answer :=
  match p with
  | [n] =>
    check (1 ≤ n.toNat && n.toNat ≤ 16) .badField <|
      let shown := s.port.changes.take n.toNat
      let left := s.port.changes.drop n.toNat
      .ok (s.setPort { s.port with changes := left },
        [byteOf shown.length, byteOf left.length] ++
        shown.flatMap fun i => [byteOf i.kind.code, byteOf i.index] ++ writeSet i.reasons)
  | _ => .error .badLength

/-- SET_NOTICE_MASK (R185). -/
def cmdSetNoticeMask (p : List Byte) (s : State) : Answer :=
  match p with
  | [m] =>
    check (m.toNat < 16) .badField <|
      .ok (s.setPort { s.port with mask := m.setWidth 4 },
        m :: [ChangeKind.entry, .channel, .calendar, .system].map fun k => byteOf (countKind k s.port.changes))
  | _ => .error .badLength

/-- IDENTIFY (R187). -/
def cmdIdentify (p : List Byte) (s : State) : Answer :=
  check p.isEmpty .badLength <| .ok (s, [0x2E, 0x16, 1, 128, 192, 48])

/-! ## The command catalogue -/

/-- The block's answer to a command of the catalogue, or UNKNOWN_COMMAND. PROGRAM_STORE, 0x69, holds the executor and is answered by
`State.execute` itself (R176, R177). -/
def runCommand (cmd : Byte) (p : List Byte) (s : State) : Answer :=
  match cmd.toNat with
  | 0x10 => cmdCreateEntry p s
  | 0x11 => cmdReadEntry p s
  | 0x12 => cmdModifyEntry p s
  | 0x13 => cmdSuspendEntry p s
  | 0x14 => cmdResumeEntry p s
  | 0x15 => cmdRetireEntry p s
  | 0x16 => cmdStartEntry p s
  | 0x17 => cmdEndEntry p s
  | 0x18 => cmdFindEntries p s
  | 0x1F => cmdClearAll p s
  | 0x20 => cmdAddException p s
  | 0x21 => cmdRemoveException p s
  | 0x22 => cmdListExceptions p s
  | 0x23 => cmdDayClass p s
  | 0x30 => cmdOverride p s
  | 0x31 => cmdClearOverride p s
  | 0x32 => cmdHold p s
  | 0x33 => cmdReleaseHold p s
  | 0x34 => cmdReadChannel p s
  | 0x38 => cmdConfigureChannel p s
  | 0x39 => cmdSetStagger p s
  | 0x40 => cmdConfigureButton p s
  | 0x41 => cmdReadButton p s
  | 0x48 => cmdSetLightLimits p s
  | 0x49 => cmdReadLight p s
  | 0x50 => cmdSetTime p s
  | 0x51 => cmdReadTime p s
  | 0x52 => cmdSetTimeSource p s
  | 0x58 => cmdSetLineConfirm p s
  | 0x59 => cmdReadLine p s
  | 0x60 => cmdSetSupply p s
  | 0x61 => cmdReadSupply p s
  | 0x68 => cmdReadStore p s
  | 0x6A => cmdLoadDefaults p s
  | 0x6B => cmdLoadStatus p s
  | 0x70 => cmdReadChanges p s
  | 0x71 => cmdSetNoticeMask p s
  | 0x72 => cmdIdentify p s
  | _ => .error .unknownCommand

/-- The RESULT of a command that was taken: ACCEPTED for LOAD_DEFAULTS, else OK (R180). -/
def takenResult (cmd : Byte) : Result := if cmd = 0x6A then .accepted else .ok

/-! ## The executor (R176, R177) -/

/-- A reply joins the tail of the reply queue (R175). -/
def State.pushReply (s : State) (r : Reply) : State := s.setPort { s.port with replies := s.port.replies ++ [r] }

/-- The reply to a request from its block's answer: a refusal changes nothing and carries no payload (R176, R180). -/
def State.answer (s : State) (rq : Request) (a : Answer) : State :=
  match a with
  | .ok (s', payload) => s'.pushReply ⟨rq.tag, rq.cmd, takenResult rq.cmd, payload⟩
  | .error r => s.pushReply ⟨rq.tag, rq.cmd, r, []⟩

/-- A request that has left the queue is handed to its block. PROGRAM_STORE that passes holds the executor without a reply (R176,
R177). -/
def State.execute (s : State) (rq : Request) : State :=
  if rq.cmd = 0x69 then
    match cmdProgramStore rq.params rq.tag s with
    | .ok s' => s'
    | .error r => s.answer rq (.error r)
  else s.answer rq (runCommand rq.cmd rq.params s)

/-- Can the executor take a request (R176)? The request queue is asked by `State.takeHead`. -/
def State.executorFree (s : State) : Bool :=
  s.portActive && !s.port.executorBusy && s.port.replies.length < Config.queuePlaces

/-- Take requests from the head, one after another at the same instant, until a condition fails. The first argument is the number of
requests waiting (R176). -/
def State.takeRequests : Nat → State → State
  | 0, s => s
  | n + 1, s =>
    match s.port.requests with
    | [] => s
    | rq :: rest =>
      if s.executorFree then State.takeRequests n ((s.setPort { s.port with requests := rest }).execute rq) else s

/-- The executor's test, made at each event that can make its conditions hold (R176). -/
def State.executor (s : State) : State := s.takeRequests s.port.requests.length

/-- An accepted request joins the tail of the request queue, and the executor's test follows (R170, R176). -/
def State.accept (s : State) (rq : Request) : State :=
  (s.setPort { s.port with requests := s.port.requests ++ [rq] }).executor

/-- A frame is discarded (R170, R171). -/
def State.discardFrame (s : State) : State := s.setPort { s.port with discard := true }

/-- A request of right form reaches the port: accepted, or discarded for more than 60 parameters or for want of a place; while the port
is not active nothing is taken (R168, R170). -/
def State.submit (s : State) (cmd tag : Byte) (params : List Byte) : State :=
  if s.portActive then
    if params.length ≤ Config.maxParams ∧ s.port.requests.length < Config.queuePlaces then s.accept ⟨cmd, tag, params⟩
    else s.discardFrame
  else s

/-! ## Frames (R170, R172, R173) -/

/-- The request in the whole bytes of a request transaction, or none if the frame fails a check of its form (R170). -/
def readFrame (bytes : List Byte) (oddBits : Nat) : Option Request :=
  match bytes with
  | sync :: cmd :: tag :: len :: rest =>
    let params := rest.take len.toNat
    if sync = 0x3C ∧ len.toNat ≤ Config.maxParams ∧ rest.length = len.toNat + 1 ∧ oddBits = 0 ∧
        rest.drop len.toNat = [crc8 ([cmd, tag, len] ++ params)] then
      some ⟨cmd, tag, params⟩
    else none
  | _ => none

/-- The request frame of a request: SYNC, CMD, TAG, LEN, the parameters and the CRC-8 (R172, Chapter 12). -/
def Request.frame (rq : Request) : List Byte :=
  let body := [rq.cmd, rq.tag, byteOf rq.params.length] ++ rq.params
  0x3C :: body ++ [crc8 body]

/-- The bytes of a reply frame up to its CRC (Chapter 12). -/
def Reply.body (r : Reply) : List Byte := [r.tag, r.cmd, r.result.code, byteOf r.payload.length] ++ r.payload

/-- A reply frame with its CRC-8 (R172). -/
def Reply.frame (r : Reply) : List Byte := r.body ++ [crc8 r.body]

/-- The NONE frame's fields (R173). -/
def Reply.none : Reply := ⟨0, 0, .nothing, []⟩

/-- The reply whose frame a reply read shifts out. -/
def Latched.reply : Latched → Reply
  | .noReply => Reply.none
  | .head r => r

/-- The byte on MISO at place `k` of a transaction: the status byte, then the latched frame, and 0xFF behind it or in a request
(R168, R170, R173). -/
def Transaction.miso (t : Transaction) (k : Nat) : Byte :=
  if k = 0 then t.status.byte
  else
    match t.latched with
    | some l => l.reply.frame.getD (k - 1) 0xFF
    | none => 0xFF

/-- MISO: the byte at a place of the transaction in progress, or high-impedance (R168). -/
def State.miso (s : State) (k : Nat) : Option Byte := s.port.transaction.map (·.miso k)

/-! ## Transactions (R168, R169, R171, R173) -/

/-- A falling edge of CSN: a transaction begins, its status byte composed, if the port takes transactions (R168, R169). -/
def State.startTransaction (s : State) : State :=
  if s.port.csnLow then s
  else
    let t : Option Transaction := if s.portActive then some ⟨s.portStatus, none⟩ else none
    s.setPort { s.port with csnLow := true, transaction := t }

/-- The eighth bit of the status byte is out: a discard flag that it carried is cleared (R171). -/
def State.statusShifted (s : State) : State :=
  match s.port.transaction with
  | some t => if t.status.discard then s.setPort { s.port with discard := false } else s
  | none => s

/-- A first byte of 0xC3 is complete: the head reply or NONE is latched (R173). -/
def State.latchReply (s : State) : State :=
  match s.port.transaction with
  | some ⟨status, none⟩ =>
    let l : Latched := match s.port.replies with
      | r :: _ => .head r
      | [] => .noReply
    s.setPort { s.port with transaction := some ⟨status, some l⟩ }
  | _ => s

/-- CSN rises: no transaction any more. -/
def State.raiseCsn (s : State) : State := s.setPort { s.port with csnLow := false, transaction := none }

/-- The end of a reply read: a latched reply shifted out in full leaves the head of the queue, and the executor's test follows (R173,
R176). -/
def State.endReplyRead (s : State) (t : Transaction) (shifted : Nat) : State :=
  match t.latched with
  | some (.head r) =>
    if r.payload.length + 5 ≤ shifted then (s.setPort { s.port with replies := s.port.replies.tail }).executor else s
  | _ => s

/-- The end of a request transaction: the frame is judged, and accepted or discarded (R170). -/
def State.judgeFrame (s : State) (bytes : List Byte) (oddBits : Nat) : State :=
  match readFrame bytes oddBits with
  | some rq => if s.port.requests.length < Config.queuePlaces then s.accept rq else s.discardFrame
  | none => s.discardFrame

/-- CSN rises after the whole bytes `bytes`: with none, the transaction has no kind and is ignored; with a first byte of 0xC3 it is a
reply read (R168, R170). -/
def State.endRequest (s : State) (bytes : List Byte) (oddBits : Nat) : State :=
  match s.port.transaction with
  | none => s.raiseCsn
  | some t =>
    match bytes with
    | [] => s.raiseCsn
    | first :: rest => if first = 0xC3 then s.raiseCsn.endReplyRead t rest.length else s.raiseCsn.judgeFrame bytes oddBits

/-- CSN rises at the end of a reply read. -/
def State.endRead (s : State) (shifted : Nat) : State :=
  match s.port.transaction with
  | none => s.raiseCsn
  | some t => s.raiseCsn.endReplyRead t shifted

/-! ## Port reset (R178) -/

/-- A PROGRAM_STORE in progress is abandoned by a port reset: its byte in flight will complete (R157, R178). -/
def State.abandonProgramming (s : State) : State :=
  s.setProgramming (s.store.programming.map fun pr => { pr with abandoned := true })

/-- A falling edge of PRSTN (R178). -/
def State.portReset (s : State) : State :=
  if s.port.prstnLow then s
  else
    (s.setPort { s.port with
      prstnLow := true, requests := [], replies := [], discard := false, transaction := none }).abandonProgramming

/-- A rising edge of PRSTN: the port is active again, and the executor's test follows (R176, R178). -/
def State.portRelease (s : State) : State :=
  if s.port.prstnLow then (s.setPort { s.port with prstnLow := false }).executor else s

/-! ## The end of a programming millisecond (R155, R177) -/

/-- Is a byte in flight due? -/
def State.programDue (s : State) : Option Programming :=
  match s.store.programming with
  | some pr => if pr.byteDue s.osc then some pr else none
  | none => none

/-- The executor becomes IDLE with no PROGRAM_STORE in progress. -/
def State.freeExecutor (s : State) : State := (s.setProgramming none).setPort { s.port with executorBusy := false }

/-- The end of a byte's millisecond: the byte takes its new value. After the last one the reply is queued and the executor becomes IDLE;
an abandoned command ends with no reply; else the next byte begins (R155 to R157, R177). -/
def State.programByteDone (s : State) : State :=
  match s.programDue with
  | none => s
  | some pr =>
    let s := s.setArray (pr.burn s.store.array)
    if pr.abandoned then s.freeExecutor.executor
    else if pr.values.length ≤ pr.done + 1 then (s.freeExecutor.pushReply (pr.report s.store.array)).executor
    else s.setProgramming (some { pr with done := pr.done + 1 })

end Sys2Proof.Machine
end

