-- ==== Sys2Proof/Machine/HostCommands.lean ====
section
/-! DEFINITION. The meanings of the host command rows (Chapter 11): a request of each command of the catalogue reaches the port with
its TAG and its parameter bytes. If the port is active and has a place, the request joins the request queue, and the executor takes it
at once when it can (R170, R174, R176; log 15). The effect and the reply of each command are those of the definition named in its
docstring, reached through `runCommand`. -/

namespace Sys2Proof.Machine

/-- What a command or event answers: the part always goes on, in a next state. -/
abbrev Effect := Host.Outcome State Fault Refusal

/-- CREATE_ENTRY (R13): `cmdCreateEntry`. -/
def execCreateEntry (tag : Byte) (params : List Byte) (s : State) : Effect := .next (s.submit 0x10 tag params)

/-- READ_ENTRY (R16): `cmdReadEntry`. -/
def execReadEntry (tag : Byte) (params : List Byte) (s : State) : Effect := .next (s.submit 0x11 tag params)

/-- MODIFY_ENTRY (R17): `cmdModifyEntry`. -/
def execModifyEntry (tag : Byte) (params : List Byte) (s : State) : Effect := .next (s.submit 0x12 tag params)

/-- SUSPEND_ENTRY (R18): `cmdSuspendEntry`. -/
def execSuspendEntry (tag : Byte) (params : List Byte) (s : State) : Effect := .next (s.submit 0x13 tag params)

/-- RESUME_ENTRY (R19): `cmdResumeEntry`. -/
def execResumeEntry (tag : Byte) (params : List Byte) (s : State) : Effect := .next (s.submit 0x14 tag params)

/-- RETIRE_ENTRY (R20): `cmdRetireEntry`. -/
def execRetireEntry (tag : Byte) (params : List Byte) (s : State) : Effect := .next (s.submit 0x15 tag params)

/-- START_ENTRY (R21): `cmdStartEntry`. -/
def execStartEntry (tag : Byte) (params : List Byte) (s : State) : Effect := .next (s.submit 0x16 tag params)

/-- END_ENTRY (R22): `cmdEndEntry`. -/
def execEndEntry (tag : Byte) (params : List Byte) (s : State) : Effect := .next (s.submit 0x17 tag params)

/-- FIND_ENTRIES (R23): `cmdFindEntries`. -/
def execFindEntries (tag : Byte) (params : List Byte) (s : State) : Effect := .next (s.submit 0x18 tag params)

/-- CLEAR_ALL (R24): `cmdClearAll`. -/
def execClearAll (tag : Byte) (params : List Byte) (s : State) : Effect := .next (s.submit 0x1F tag params)

/-- ADD_EXCEPTION (R55): `cmdAddException`. -/
def execAddException (tag : Byte) (params : List Byte) (s : State) : Effect := .next (s.submit 0x20 tag params)

/-- REMOVE_EXCEPTION (R56): `cmdRemoveException`. -/
def execRemoveException (tag : Byte) (params : List Byte) (s : State) : Effect := .next (s.submit 0x21 tag params)

/-- LIST_EXCEPTIONS (R57): `cmdListExceptions`. -/
def execListExceptions (tag : Byte) (params : List Byte) (s : State) : Effect := .next (s.submit 0x22 tag params)

/-- DAY_CLASS (R58): `cmdDayClass`. -/
def execDayClass (tag : Byte) (params : List Byte) (s : State) : Effect := .next (s.submit 0x23 tag params)

/-- OVERRIDE (R73): `cmdOverride`. -/
def execOverride (tag : Byte) (params : List Byte) (s : State) : Effect := .next (s.submit 0x30 tag params)

/-- CLEAR_OVERRIDE (R74): `cmdClearOverride`. -/
def execClearOverride (tag : Byte) (params : List Byte) (s : State) : Effect := .next (s.submit 0x31 tag params)

/-- HOLD (R75): `cmdHold`. -/
def execHold (tag : Byte) (params : List Byte) (s : State) : Effect := .next (s.submit 0x32 tag params)

/-- RELEASE_HOLD (R76): `cmdReleaseHold`. -/
def execReleaseHold (tag : Byte) (params : List Byte) (s : State) : Effect := .next (s.submit 0x33 tag params)

/-- READ_CHANNEL (R77): `cmdReadChannel`. -/
def execReadChannel (tag : Byte) (params : List Byte) (s : State) : Effect := .next (s.submit 0x34 tag params)

/-- CONFIGURE_CHANNEL (R83): `cmdConfigureChannel`. -/
def execConfigureChannel (tag : Byte) (params : List Byte) (s : State) : Effect := .next (s.submit 0x38 tag params)

/-- SET_STAGGER (R93): `cmdSetStagger`. -/
def execSetStagger (tag : Byte) (params : List Byte) (s : State) : Effect := .next (s.submit 0x39 tag params)

/-- CONFIGURE_BUTTON (R104): `cmdConfigureButton`. -/
def execConfigureButton (tag : Byte) (params : List Byte) (s : State) : Effect := .next (s.submit 0x40 tag params)

/-- READ_BUTTON (R105): `cmdReadButton`. -/
def execReadButton (tag : Byte) (params : List Byte) (s : State) : Effect := .next (s.submit 0x41 tag params)

/-- SET_LIGHT_LIMITS (R118): `cmdSetLightLimits`. -/
def execSetLightLimits (tag : Byte) (params : List Byte) (s : State) : Effect := .next (s.submit 0x48 tag params)

/-- READ_LIGHT (R119): `cmdReadLight`. -/
def execReadLight (tag : Byte) (params : List Byte) (s : State) : Effect := .next (s.submit 0x49 tag params)

/-- SET_TIME (R129): `cmdSetTime`. -/
def execSetTime (tag : Byte) (params : List Byte) (s : State) : Effect := .next (s.submit 0x50 tag params)

/-- READ_TIME (R131): `cmdReadTime`. -/
def execReadTime (tag : Byte) (params : List Byte) (s : State) : Effect := .next (s.submit 0x51 tag params)

/-- SET_TIME_SOURCE (R130): `cmdSetTimeSource`. -/
def execSetTimeSource (tag : Byte) (params : List Byte) (s : State) : Effect := .next (s.submit 0x52 tag params)

/-- SET_LINE_CONFIRM (R138): `cmdSetLineConfirm`. -/
def execSetLineConfirm (tag : Byte) (params : List Byte) (s : State) : Effect := .next (s.submit 0x58 tag params)

/-- READ_LINE (R139): `cmdReadLine`. -/
def execReadLine (tag : Byte) (params : List Byte) (s : State) : Effect := .next (s.submit 0x59 tag params)

/-- SET_SUPPLY (R150): `cmdSetSupply`. -/
def execSetSupply (tag : Byte) (params : List Byte) (s : State) : Effect := .next (s.submit 0x60 tag params)

/-- READ_SUPPLY (R151): `cmdReadSupply`. -/
def execReadSupply (tag : Byte) (params : List Byte) (s : State) : Effect := .next (s.submit 0x61 tag params)

/-- READ_STORE (R158): `cmdReadStore`. -/
def execReadStore (tag : Byte) (params : List Byte) (s : State) : Effect := .next (s.submit 0x68 tag params)

/-- PROGRAM_STORE (R156): `cmdProgramStore`. -/
def execProgramStore (tag : Byte) (params : List Byte) (s : State) : Effect := .next (s.submit 0x69 tag params)

/-- LOAD_DEFAULTS (R164): `cmdLoadDefaults`. -/
def execLoadDefaults (tag : Byte) (params : List Byte) (s : State) : Effect := .next (s.submit 0x6A tag params)

/-- LOAD_STATUS (R165): `cmdLoadStatus`. -/
def execLoadStatus (tag : Byte) (params : List Byte) (s : State) : Effect := .next (s.submit 0x6B tag params)

/-- READ_CHANGES (R183): `cmdReadChanges`. -/
def execReadChanges (tag : Byte) (params : List Byte) (s : State) : Effect := .next (s.submit 0x70 tag params)

/-- SET_NOTICE_MASK (R185): `cmdSetNoticeMask`. -/
def execSetNoticeMask (tag : Byte) (params : List Byte) (s : State) : Effect := .next (s.submit 0x71 tag params)

/-- IDENTIFY (R187): `cmdIdentify`. -/
def execIdentify (tag : Byte) (params : List Byte) (s : State) : Effect := .next (s.submit 0x72 tag params)

/-- UNKNOWN_COMMAND: a request with a code that names no command of the catalogue (R176). -/
def execUnknownCommand (cmd tag : Byte) (params : List Byte) (s : State) : Effect := .next (s.submit cmd tag params)

end Sys2Proof.Machine
end

