-- ==== Sys2Proof/Machine/Events.lean ====
section
/-! DEFINITION. The meanings of the event rows: what happens at the part by itself or at its pins. Each lets `dt` pass and then takes
its event at that instant. An event whose condition does not hold then changes nothing but the time (log 16). -/

namespace Sys2Proof.Machine

/-! ## Minute ticks owed (R31, R69, R128; log 3) -/

/-- The Schedule Table takes the minute tick owed to it. -/
def State.takeMinuteTick (s : State) : State :=
  if s.time.tableTickOwed && !s.supply.stopped then
    (s.setTimeBase { s.time with tableTickOwed := false }).minuteEvaluation
  else s

/-- The Claim Manager takes the minute tick owed to it. -/
def State.takeClaimTick (s : State) : State :=
  if s.time.claimTickOwed && !s.supply.stopped then
    (s.setTimeBase { s.time with claimTickOwed := false }).countdownOverrides
  else s

/-! ## The rows -/

/-- TRANSACTION_START (R169). A falling edge of CSN. -/
def execTransactionStart (dt : Nat) (s : State) : Effect := .next ((s.elapse dt).startTransaction)

/-- STATUS_BYTE_SHIFTED (R171). The eighth bit of the status byte is out. -/
def execStatusByteShifted (dt : Nat) (s : State) : Effect := .next ((s.elapse dt).statusShifted)

/-- REPLY_LATCH (R173). A first byte of 0xC3 is complete. -/
def execReplyLatch (dt : Nat) (s : State) : Effect := .next ((s.elapse dt).latchReply)

/-- REQUEST_FRAME (R170). CSN rises at the end of a request transaction. -/
def execRequestFrame (dt : Nat) (bytes : List Byte) (oddBits : Nat) (s : State) : Effect := .next ((s.elapse dt).endRequest bytes oddBits)

/-- REPLY_READ_END (R173). CSN rises at the end of a reply read. -/
def execReplyReadEnd (dt : Nat) (shifted : Nat) (s : State) : Effect := .next ((s.elapse dt).endRead shifted)

/-- PORT_RESET (R178). A falling edge of PRSTN. -/
def execPortReset (dt : Nat) (s : State) : Effect := .next ((s.elapse dt).portReset)

/-- PORT_RESET_RELEASE (R178). A rising edge of PRSTN. -/
def execPortResetRelease (dt : Nat) (s : State) : Effect := .next ((s.elapse dt).portRelease)

/-- PROGRAM_BYTE_DONE (R155). The end of a programming millisecond. -/
def execProgramByteDone (dt : Nat) (s : State) : Effect := .next ((s.elapse dt).programByteDone)

/-- ENTER_BACKUP (R144). VMAIN falls below 2.9 V. -/
def execEnterBackup (dt : Nat) (s : State) : Effect := .next ((s.elapse dt).enterBackup)

/-- MAINS_RETURN (R145). VMAIN rises to 3.0 V. -/
def execMainsReturn (dt : Nat) (s : State) : Effect := .next ((s.elapse dt).mainsReturn)

/-- RESTORE_COUNTDOWN_EXPIRY (R148). The restore countdown is 0. -/
def execRestoreCountdownExpiry (dt : Nat) (s : State) : Effect := .next ((s.elapse dt).countdownExpiry)

/-- RETAINED_SUPPLY_LOSS (R143). The retained domain loses its supply in BACKUP. -/
def execRetainedSupplyLoss (dt : Nat) (s : State) : Effect := .next ((s.elapse dt).retainedLoss)

/-- SECOND_BOUNDARY (R127). The elapsed count has reached its limit. -/
def execSecondBoundary (dt : Nat) (s : State) : Effect := .next ((s.elapse dt).secondBoundary)

/-- MINUTE_EVALUATION (R31). The Schedule Table takes the minute tick owed to it. -/
def execMinuteEvaluation (dt : Nat) (s : State) : Effect := .next ((s.elapse dt).takeMinuteTick)

/-- OVERRIDE_COUNTDOWN (R69). The Claim Manager takes the minute tick owed to it. -/
def execOverrideCountdown (dt : Nat) (s : State) : Effect := .next ((s.elapse dt).takeClaimTick)

/-- RISING_CROSSING (R132). A rising crossing of LINE. -/
def execRisingCrossing (dt : Nat) (s : State) : Effect := .next ((s.elapse dt).risingCrossing)

/-- FALLING_CROSSING (R132). A falling crossing of LINE. -/
def execFallingCrossing (dt : Nat) (s : State) : Effect := .next ((s.elapse dt).fallingCrossing)

/-- ABSENCE_TIMEOUT (R136). The absence timer has run out. -/
def execAbsenceTimeout (dt : Nat) (s : State) : Effect := .next ((s.elapse dt).absenceTimeout)

/-- CRYSTAL_STOP (R124). The detector declares the crystal STOPPED. -/
def execCrystalStop (dt : Nat) (s : State) : Effect := .next ((s.elapse dt).stopCrystal)

/-- CRYSTAL_RUN (R124). The detector declares the crystal RUNNING. -/
def execCrystalRun (dt : Nat) (s : State) : Effect := .next ((s.elapse dt).runCrystal)

/-- CRYSTAL_TICK (R90). The 10 ms crystal tick. -/
def execCrystalTick (dt : Nat) (s : State) : Effect := .next ((s.elapse dt).crystalTick)

/-- COIL_ACTION (R95). A MONO operation's action instant. -/
def execCoilAction (dt : Nat) (c : Chan) (s : State) : Effect := .next ((s.elapse dt).coilAction c)

/-- PULSE_START (R96). A BI operation's pulse start. -/
def execPulseStart (dt : Nat) (c : Chan) (s : State) : Effect := .next ((s.elapse dt).pulseStart c)

/-- OPERATION_COMPLETE (R98). An operation's completion instant. -/
def execOperationComplete (dt : Nat) (c : Chan) (s : State) : Effect := .next ((s.elapse dt).complete c)

/-- BUTTON_INPUT_LOW (R106). A button input goes low. -/
def execButtonInputLow (dt : Nat) (b : ButtonNo) (s : State) : Effect := .next ((s.elapse dt).inputLow b)

/-- BUTTON_INPUT_HIGH (R106). A button input goes high. -/
def execButtonInputHigh (dt : Nat) (b : ButtonNo) (s : State) : Effect := .next ((s.elapse dt).inputHigh b)

/-- BUTTON_DEBOUNCE_EXPIRY (R106). A press has lasted 30 ms. -/
def execButtonDebounceExpiry (dt : Nat) (b : ButtonNo) (s : State) : Effect := .next ((s.elapse dt).debounceExpiry b)

/-- BUTTON_RELEASE_CONFIRM (R106). An input has stayed high for 30 ms. -/
def execButtonReleaseConfirm (dt : Nat) (b : ButtonNo) (s : State) : Effect := .next ((s.elapse dt).releaseConfirm b)

/-- LONG_PRESS (R109). A press has lasted 3 s. -/
def execLongPress (dt : Nat) (b : ButtonNo) (s : State) : Effect := .next ((s.elapse dt).longPress b)

/-- LUX_SAMPLE (R111). The one-second photocell sample, ten bits wide. -/
def execLuxSample (dt : Nat) (value : Nat) (s : State) : Effect := .next ((s.elapse dt).luxSample (value % 1024))

/-- LOAD_STEP (R161). One item of a load. -/
def execLoadStep (dt : Nat) (s : State) : Effect := .next ((s.elapse dt).loadStep)

/-- RESTORE_COUNTDOWN_SECOND (R147). A second of the restore countdown. -/
def execRestoreCountdownSecond (dt : Nat) (s : State) : Effect := .next ((s.elapse dt).countdownSecond)

/-- POWER_UP (R143). The retained domain's supply rises through 2.0 V. No time passes on a stopped domain. -/
def execPowerUp (vmainUp crystalRuns : Bool) (s : State) : Effect := .next (s.powerUp vmainUp crystalRuns)

end Sys2Proof.Machine
end

