-- ==== Sys2Proof/Machine/Dispatch.lean ====
section
/-! DEFINITION. The dispatch: one meaning for each row of spec/opcode_table.json. -/

namespace Sys2Proof.Machine

def exec (i : Instr) (s : State) : Host.Outcome State Fault Refusal :=
  match i with
  | .createEntry tag params => Sys2Proof.Machine.execCreateEntry tag params s
  | .readEntry tag params => Sys2Proof.Machine.execReadEntry tag params s
  | .modifyEntry tag params => Sys2Proof.Machine.execModifyEntry tag params s
  | .suspendEntry tag params => Sys2Proof.Machine.execSuspendEntry tag params s
  | .resumeEntry tag params => Sys2Proof.Machine.execResumeEntry tag params s
  | .retireEntry tag params => Sys2Proof.Machine.execRetireEntry tag params s
  | .startEntry tag params => Sys2Proof.Machine.execStartEntry tag params s
  | .endEntry tag params => Sys2Proof.Machine.execEndEntry tag params s
  | .findEntries tag params => Sys2Proof.Machine.execFindEntries tag params s
  | .clearAll tag params => Sys2Proof.Machine.execClearAll tag params s
  | .addException tag params => Sys2Proof.Machine.execAddException tag params s
  | .removeException tag params => Sys2Proof.Machine.execRemoveException tag params s
  | .listExceptions tag params => Sys2Proof.Machine.execListExceptions tag params s
  | .dayClass tag params => Sys2Proof.Machine.execDayClass tag params s
  | .override tag params => Sys2Proof.Machine.execOverride tag params s
  | .clearOverride tag params => Sys2Proof.Machine.execClearOverride tag params s
  | .hold tag params => Sys2Proof.Machine.execHold tag params s
  | .releaseHold tag params => Sys2Proof.Machine.execReleaseHold tag params s
  | .readChannel tag params => Sys2Proof.Machine.execReadChannel tag params s
  | .configureChannel tag params => Sys2Proof.Machine.execConfigureChannel tag params s
  | .setStagger tag params => Sys2Proof.Machine.execSetStagger tag params s
  | .configureButton tag params => Sys2Proof.Machine.execConfigureButton tag params s
  | .readButton tag params => Sys2Proof.Machine.execReadButton tag params s
  | .setLightLimits tag params => Sys2Proof.Machine.execSetLightLimits tag params s
  | .readLight tag params => Sys2Proof.Machine.execReadLight tag params s
  | .setTime tag params => Sys2Proof.Machine.execSetTime tag params s
  | .readTime tag params => Sys2Proof.Machine.execReadTime tag params s
  | .setTimeSource tag params => Sys2Proof.Machine.execSetTimeSource tag params s
  | .setLineConfirm tag params => Sys2Proof.Machine.execSetLineConfirm tag params s
  | .readLine tag params => Sys2Proof.Machine.execReadLine tag params s
  | .setSupply tag params => Sys2Proof.Machine.execSetSupply tag params s
  | .readSupply tag params => Sys2Proof.Machine.execReadSupply tag params s
  | .readStore tag params => Sys2Proof.Machine.execReadStore tag params s
  | .programStore tag params => Sys2Proof.Machine.execProgramStore tag params s
  | .loadDefaults tag params => Sys2Proof.Machine.execLoadDefaults tag params s
  | .loadStatus tag params => Sys2Proof.Machine.execLoadStatus tag params s
  | .readChanges tag params => Sys2Proof.Machine.execReadChanges tag params s
  | .setNoticeMask tag params => Sys2Proof.Machine.execSetNoticeMask tag params s
  | .identify tag params => Sys2Proof.Machine.execIdentify tag params s
  | .unknownCommand cmd tag params => Sys2Proof.Machine.execUnknownCommand cmd tag params s
  | .transactionStart dt => Sys2Proof.Machine.execTransactionStart dt s
  | .statusByteShifted dt => Sys2Proof.Machine.execStatusByteShifted dt s
  | .replyLatch dt => Sys2Proof.Machine.execReplyLatch dt s
  | .requestFrame dt bytes oddBits => Sys2Proof.Machine.execRequestFrame dt bytes oddBits s
  | .replyReadEnd dt shifted => Sys2Proof.Machine.execReplyReadEnd dt shifted s
  | .portReset dt => Sys2Proof.Machine.execPortReset dt s
  | .portResetRelease dt => Sys2Proof.Machine.execPortResetRelease dt s
  | .programByteDone dt => Sys2Proof.Machine.execProgramByteDone dt s
  | .enterBackup dt => Sys2Proof.Machine.execEnterBackup dt s
  | .mainsReturn dt => Sys2Proof.Machine.execMainsReturn dt s
  | .restoreCountdownExpiry dt => Sys2Proof.Machine.execRestoreCountdownExpiry dt s
  | .retainedSupplyLoss dt => Sys2Proof.Machine.execRetainedSupplyLoss dt s
  | .powerUp vmainUp crystalRuns => Sys2Proof.Machine.execPowerUp vmainUp crystalRuns s
  | .secondBoundary dt => Sys2Proof.Machine.execSecondBoundary dt s
  | .minuteEvaluation dt => Sys2Proof.Machine.execMinuteEvaluation dt s
  | .overrideCountdown dt => Sys2Proof.Machine.execOverrideCountdown dt s
  | .risingCrossing dt => Sys2Proof.Machine.execRisingCrossing dt s
  | .fallingCrossing dt => Sys2Proof.Machine.execFallingCrossing dt s
  | .absenceTimeout dt => Sys2Proof.Machine.execAbsenceTimeout dt s
  | .crystalStop dt => Sys2Proof.Machine.execCrystalStop dt s
  | .crystalRun dt => Sys2Proof.Machine.execCrystalRun dt s
  | .crystalTick dt => Sys2Proof.Machine.execCrystalTick dt s
  | .coilAction dt c => Sys2Proof.Machine.execCoilAction dt c s
  | .pulseStart dt c => Sys2Proof.Machine.execPulseStart dt c s
  | .operationComplete dt c => Sys2Proof.Machine.execOperationComplete dt c s
  | .buttonInputLow dt b => Sys2Proof.Machine.execButtonInputLow dt b s
  | .buttonInputHigh dt b => Sys2Proof.Machine.execButtonInputHigh dt b s
  | .buttonDebounceExpiry dt b => Sys2Proof.Machine.execButtonDebounceExpiry dt b s
  | .buttonReleaseConfirm dt b => Sys2Proof.Machine.execButtonReleaseConfirm dt b s
  | .longPress dt b => Sys2Proof.Machine.execLongPress dt b s
  | .luxSample dt value => Sys2Proof.Machine.execLuxSample dt value s
  | .loadStep dt => Sys2Proof.Machine.execLoadStep dt s
  | .restoreCountdownSecond dt => Sys2Proof.Machine.execRestoreCountdownSecond dt s

end Sys2Proof.Machine
end

