-- ==== Sys2Proof/Machine/Idle.lean ====
section
/-! DEFINITION. What the part does while no command waits: the events that its own clocks make due (log 2). -/

namespace Sys2Proof.Machine

/-- The first of a list of numbers that meets a condition. -/
def firstOf {α : Type} (l : List α) (due : α → Bool) (event : α → Instr) : Option Instr := (l.find? due).map event

/-- An event if its condition holds. -/
def eventIf (due : Bool) (event : Instr) : Option Instr := if due then some event else none

/-- The events of the part's own clocks that are due now, each with no time passing before it, in the order in which an idle part takes
them (log 2). The samples of LUX are not among them, since the value comes from outside (log 17). -/
def State.dueEvents (s : State) : List (Option Instr) :=
  [eventIf s.secondDue (.secondBoundary 0),
    eventIf (s.time.tableTickOwed && !s.supply.stopped) (.minuteEvaluation 0),
    eventIf (s.time.claimTickOwed && !s.supply.stopped) (.overrideCountdown 0),
    eventIf s.absenceDue (.absenceTimeout 0),
    eventIf s.tickDue (.crystalTick 0),
    firstOf allChannels (fun c => (s.coilDue c).isSome) (.coilAction 0),
    firstOf allChannels (fun c => (s.pulseDue c).isSome) (.pulseStart 0),
    firstOf allChannels (fun c => (s.completionDue c).isSome) (.operationComplete 0),
    firstOf allButtons s.debounceDue (.buttonDebounceExpiry 0),
    firstOf allButtons s.releaseDue (.buttonReleaseConfirm 0),
    firstOf allButtons s.longPressDue (.longPress 0),
    eventIf s.programDue.isSome (.programByteDone 0),
    eventIf s.loadStepDue.isSome (.loadStep 0),
    eventIf s.countdownDue (.restoreCountdownSecond 0),
    eventIf s.expiryDue (.restoreCountdownExpiry 0)]

/-- The event that an idle part takes next, if one is due. -/
def State.dueEvent (s : State) : Option Instr := s.dueEvents.findSome? id

/-- The command that an idle part takes: the event that is due, or none while only time passes. -/
def State.idleTick (s : State) : State := s.elapse 1

end Sys2Proof.Machine
end

