-- ==== Sys2Proof/Machine/Step.lean ====
section
/-! DEFINITION. One step: the command at the front of the queue, or what an idle part does. -/

namespace Sys2Proof.Machine

/-- One step of the KT16. The command at the front of the queue is taken, with the rest left waiting. On an empty queue the part takes
the event that its clocks make due, or lets one period of 1/32768 s pass (log 2). -/
def step (s : State) : Host.Outcome State Fault Refusal :=
  match s.pending with
  | i :: rest => exec i (s.setPending rest)
  | [] =>
    match s.dueEvent with
    | some e => exec e s
    | none => .next s.idleTick

/-- The state with the command that a word spells at the front of its queue. No row of the table has bits, so no word spells a command
and the state stands as it is (log 18). -/
def State.withFetchWord (s : State) (nbits w : Nat) : State :=
  match decodeTableWord nbits w with
  | some i => s.setPending (i :: s.pending)
  | none => s

end Sys2Proof.Machine
end

