-- ==== Sys2Proof/Safety.lean ====
section
/-! DEFINITION. The terms that statements about the KT16 use: a port that takes a command at once, and the invariants that every step
keeps. -/

namespace Sys2Proof.Machine

/-! ## A port that takes a command at once -/

/-- The port is active, nothing waits before the command, the executor is IDLE and a reply place is free, so that a request is taken at
the instant it arrives (R176). -/
structure State.Ready (s : State) : Prop where
  active : s.portActive = true
  idle : s.port.executorBusy = false
  empty : s.port.requests = []
  room : s.port.replies.length < Config.queuePlaces

/-- The state after a command that was taken with RESULT OK. -/
def State.replied (s : State) (cmd tag : Byte) (payload : List Byte) : State := s.pushReply ⟨tag, cmd, .ok, payload⟩

/-- The state after a command that was refused: it stands as it was, but for the reply (R180). -/
def State.refusedWith (s : State) (cmd tag : Byte) (r : Result) : State := s.pushReply ⟨tag, cmd, r, []⟩

/-- Everything but the Schedule Table, the Exception Calendar, the Claim Manager, the requests at the Switching Engine and the change
set stands as it was: what a command of the first three blocks leaves alone. -/
structure State.SameElsewhere (s t : State) : Prop where
  buttons : t.buttons = s.buttons
  light : t.light = s.light
  time : t.time = s.time
  line : t.line = s.line
  supply : t.supply = s.supply
  store : t.store = s.store
  stagger : t.engine.stagger = s.engine.stagger
  nextTick : t.engine.nextTick = s.engine.nextTick
  port : { t.port with changes := s.port.changes } = s.port
  pending : t.pending = s.pending
  cycles : t.cycles = s.cycles
  osc : t.osc = s.osc
  freeIndex : t.freeIndex = s.freeIndex

/-! ## Relays (R82, R86, R87, R100) -/

/-- The pins of a channel agree with its kind and switch state: an UNUSED channel drives nothing, a MONO channel has no reset pin, and a
BI channel drives a pin only while PULSING, and then only the pin of its operation (R82). -/
def Channel.pinsOk (ch : Channel) : Bool :=
  match ch.config.kind with
  | .unused => !ch.pinA && !ch.pinB && ch.switch == .idle
  | .mono =>
    !ch.pinB &&
    match ch.switch with
    | .issued op => op.pin == .a
    | .pulsing _ => false
    | _ => true
  | .bi =>
    match ch.switch with
    | .pulsing op => ch.pinA == (op.pin == .a) && ch.pinB == (op.pin == .b)
    | _ => !ch.pinA && !ch.pinB

/-- A channel with nothing in hand: IDLE with both pins de-energized. -/
def Channel.atRest (ch : Channel) : Bool := ch.switch == .idle && !ch.pinA && !ch.pinB

/-- The Switching Engine's invariant: the queue holds each QUEUED channel once and no other, the pins agree with the switch states, and
outside RUN no channel has anything in hand (R82, R87, R99, R100). -/
structure State.EngineOk (s : State) : Prop where
  once : s.engine.queue.Nodup
  queued : ∀ c, c ∈ s.engine.queue ↔ (s.chan c).switch = .queued
  pins : ∀ c, (s.chan c).pinsOk = true
  quiet : s.supply.state ≠ .run → ∀ c, (s.chan c).atRest = true

/-- The level of the coil pin of a MONO channel: energized while the relay is ON and no operation in flight has taken its coil action,
or while one intended ON has taken it (R82). -/
def Channel.coilLevel (ch : Channel) : Bool :=
  match ch.switch with
  | .issued op => if op.acted then op.intended else ch.driven == .on
  | _ => ch.driven == .on

/-- The relays agree with what is asked of them: every queued channel's target differs from its driven state, and the coil pin of every
MONO channel is at its level (R82, R87). Outside RUN a coil is de-energized (R100), so that no MONO channel is driven ON there. -/
structure State.RelaysAgree (s : State) : Prop where
  differ : ∀ c ∈ s.engine.queue, (s.chan c).driven ≠ Driven.ofTarget (s.chan c).target
  coil : ∀ c, (s.chan c).config.kind = .mono → (s.chan c).pinA = (s.chan c).coilLevel

/-! ## Targets (R62) -/

/-- Every target is the head claim's action, or the rest state of a channel whose list is empty (R62). -/
def State.TargetsOk (s : State) : Prop := ∀ c, (s.chan c).target = targetOf (s.chan c).claims (s.chan c).config.rest

/-! ## Claims, the pool and the ENDED order (R15, R60, R61, R64) -/

/-- Is this a schedule claim? -/
def Claim.isSchedule (c : Claim) : Bool := match c.kind with | .schedule _ _ _ => true | _ => false

/-- The schedule claims held on all lists together (R64). -/
def State.scheduleClaims (s : State) : Nat := (allChannels.map fun c => (s.chan c).claims.countP Claim.isSchedule).sum

/-- A schedule claim on channel `c` belongs to the entry of its handle: ACTIVE, the channel in its set, and its priority, action and start
instant those of the claim (R60, R64). -/
def State.owns (s : State) (c : Chan) (x : Claim) : Bool :=
  match x.kind with
  | .schedule i gen priority =>
    (s.slot i).generation == gen && (s.slot i).entry.any fun e =>
      (channelsOf e.body.channels).contains c && priority == e.body.priority && x.action == e.body.action &&
      match e.state with
      | .active k _ => x.start == k.start
      | _ => false
  | _ => true

/-- The invariant of the Claim Manager and the Schedule Table: each claim list in its order with at most one hold and one override; an
entry ACTIVE exactly when it holds one claim on each channel of its set; the free count the pool less the claims held; and the ENDED
order the ENDED entries by ended-at, then by slot (R15, R61, R64). -/
structure State.ScheduleOk (s : State) : Prop where
  order : ∀ c, (s.chan c).claims.Pairwise fun x y => y.before x = false
  holds : ∀ c, (s.chan c).claims.countP Claim.isHold ≤ 1
  overrides : ∀ c, (s.chan c).claims.countP Claim.isOverride ≤ 1
  owned : ∀ c, ∀ x ∈ (s.chan c).claims, s.owns c x = true
  claimed : ∀ i c, ((s.slot i).entry.any fun e => e.state.isActive && (channelsOf e.body.channels).contains c) = true →
    (s.chan c).claims.countP (Claim.isOf i) = 1
  pool : s.freeCount + s.scheduleClaims = Config.poolRecords
  ended : ∀ i, i ∈ s.table.endedOrder ↔ ((s.slot i).entry.any fun e => e.state.isEnded) = true
  endedOrder : s.table.endedOrder.Pairwise fun i j => s.endedKey i < s.endedKey j

/-! ## Catch-up (R44) -/

/-- The calendar minutes that a catch-up check examines: those at or after now less 24 hours which, taken at second 0, are strictly before
now (R44). -/
def State.Examines (s : State) (m : CalMinute) : Prop :=
  let t := s.time.time
  m.tod.isReal = true ∧
    ((m.date = t.date ∧ (m.tod.minutes < t.tod.minutes ∨ m.tod.minutes = t.tod.minutes ∧ 0 < t.second)) ∨
      (t.date.previous = some m.date ∧
        (t.tod.minutes < m.tod.minutes ∨ m.tod.minutes = t.tod.minutes ∧ t.second = 0)))

/-- An examined minute at which an entry would have started: its pattern matches, and the date is an eligible day within its validity
(R44). -/
def State.WouldStart (s : State) (b : EntryBody) (m : CalMinute) : Prop :=
  s.Examines m ∧ b.trigger.matchesMinute m = true ∧
    b.eligible m.date (lookupClass s.calendar.records m.date) = true ∧ b.inForce m.date = true

/-- The latest such minute (R44). -/
def State.LatestStart (s : State) (b : EntryBody) (m : CalMinute) : Prop :=
  s.WouldStart b m ∧ ∀ n, s.WouldStart b n → n.key ≤ m.key

/-! ## An entry alone in the table

The passes of a minute tick, of a light event and of SET_TIME go over every slot; what they do to one entry shows when it stands alone. -/

/-- The only entry of the table, in its slot. -/
def State.Alone (s : State) (i : SlotNo) (gen : Byte) (e : Entry) : Prop :=
  s.slot i = ⟨gen, some e⟩ ∧ ∀ j, j ≠ i → (s.slot j).entry = none

/-- The change set holds a reason, by its bit, on the item of a kind and index (R181). -/
def State.Reports (s : State) (kind : ChangeKind) (index bit : Nat) : Prop :=
  ∃ x ∈ s.port.changes, x.kind = kind ∧ x.index = index ∧ x.reasons.getLsbD bit = true

/-- Valid-until is present and earlier than a date (R8). -/
def EntryBody.Past (b : EntryBody) (d : Date) : Prop := ∃ last, b.validUntil = some last ∧ last.key < d.key

/-- Valid-from is present and later than a date (R7). -/
def EntryBody.Early (b : EntryBody) (d : Date) : Prop := ∃ first, b.validFrom = some first ∧ d.key < first.key

/-- The light stands in doubt: UNKNOWN or FAULT, or the supply BACKUP (R32, R35). -/
def State.LightDoubted (s : State) : Prop := s.light.state = .unknown ∨ s.light.state = .fault ∨ s.supply.state = .backup

/-- A minute tick's claim end is due, told from the claim state before its countdowns are lowered: the last of its minutes or of its cap,
the AT instant reached, or the end fallback reached while the light stands in doubt (R32). -/
def State.EndDue (s : State) (k : ClaimState) : Prop :=
  (∃ n, k.remaining = some n ∧ n ≤ 1) ∨ k.cap ≤ 1 ∨ (∃ m, k.endInstant = some m ∧ m.key ≤ s.now.key) ∨
    ((∃ m, k.fallbackInstant = some m ∧ m.key ≤ s.now.key) ∧ s.LightDoubted)

/-- The start stage of a minute tick offers the entry a start, its state and count apart: time is VALID, today is an eligible day of its
class and within its validity, and its pattern matches (R34), or its start fallback is this minute, with the light in doubt and no start
yet today (R35). -/
def State.StartOffered (s : State) (e : Entry) (cls : DayClass) : Prop :=
  s.time.validity = .valid ∧ e.body.eligible s.today cls = true ∧ ¬ e.body.Early s.today ∧ ¬ e.body.Past s.today ∧
    (e.body.trigger.matchesMinute s.now = true ∨
      (e.body.trigger.isTime = false ∧ e.body.startFallback = some s.now.tod ∧ s.LightDoubted ∧ e.lastStart ≠ some s.today))

/-- No channel of a set holds a claim of the entry in a slot. -/
def State.NoClaims (s : State) (i : SlotNo) (set : Word) : Prop :=
  ∀ c ∈ channelsOf set, ∀ x ∈ (s.chan c).claims, x.isOf i = false

/-! ## The day work of the calendar (R52 to R54) -/

/-- The class of a date: of the dated record that covers it, else of the annual one, else NORMAL (R52). -/
def classOn (records : List ExceptionRecord) (d : Date) : DayClass :=
  match records.find? fun r => !r.span.isAnnual && r.span.covers d, records.find? fun r => r.span.isAnnual && r.span.covers d with
  | some r, _ => r.cls
  | none, some r => r.cls
  | none, none => .normal

/-- Is a record kept on a date: annual, or with a last date not earlier (R54)? -/
def ExceptionRecord.keptOn (r : ExceptionRecord) (d : Date) : Bool :=
  match r.span with
  | .dated _ last => d.key ≤ last.key
  | .annual _ _ => true

/-- What the day work of the calendar leaves, for the date and validity that `s` holds: today's class is the lookup's, or NORMAL while
time is UNSET (R53); while it is VALID no past dated record stays, and LAPSED tells of one removed (R54). -/
structure State.DayWorkDone (s t : State) : Prop where
  cls : t.calendar.todayClass = if s.time.validity = .unset then .normal else classOn s.calendar.records s.today
  records : t.calendar.records =
    if s.time.validity = .valid then s.calendar.records.filter fun r => r.keptOn s.today else s.calendar.records
  lapsed : s.time.validity = .valid → (∃ r ∈ s.calendar.records, r.keptOn s.today = false) → t.Reports .calendar 0 1

/-! ## The item chain of the store (R159, R192) -/

/-- The bytes of an item: its type, its body length and its body (R192). -/
def itemBytes (x : Byte × List Byte) : List Byte := [x.1, byteOf x.2.length] ++ x.2

/-- The L bytes from offset 16 are exactly as many items as the header counts, none with a length byte of 0xFF (R159, R192). -/
def ItemChain (array : List Host.Cell) (h : StoreHeader) : Prop :=
  ∃ items : List (Byte × List Byte), items.length = h.items ∧ (∀ x ∈ items, x.2.length < 255) ∧
    items.flatMap itemBytes = readCells array 16 h.length

/-! ## The port (R174 to R177) -/

/-- The port's invariant: at most four requests and four replies, an executor that is BUSY exactly while a PROGRAM_STORE is in progress,
a reply place kept free for that command, and nothing at all in BACKUP (R157, R174 to R179). -/
structure State.PortOk (s : State) : Prop where
  requests : s.port.requests.length ≤ Config.queuePlaces
  replies : s.port.replies.length ≤ Config.queuePlaces
  busy : s.port.executorBusy = s.store.programming.isSome
  place : ∀ pr, s.store.programming = some pr → s.port.replies.length < Config.queuePlaces
  dead : s.supply.state = .backup →
    s.port.requests = [] ∧ s.port.replies = [] ∧ s.store.programming = none ∧ s.port.transaction = none

/-- The change set's invariant: items in read order, each kind and index at most once, none with an empty reason set (R181, R183). -/
def changesOk (items : List ChangeItem) : Prop :=
  items.Pairwise (fun a b => readBefore a.kind a.index b.kind b.index = true) ∧ ∀ i ∈ items, i.reasons ≠ 0

/-! ## The Exception Calendar (R50, R51) -/

/-- The calendar's invariant: at most 48 records, in list order, no two in conflict (R50, R51). -/
structure State.CalendarOk (s : State) : Prop where
  count : s.calendar.records.length ≤ Config.calendarRecords
  order : s.calendar.records.Pairwise fun x y => x.span.listKey ≤ y.span.listKey
  apart : s.calendar.records.Pairwise fun x y => x.span.conflicts y.span = false

/-! ## Entry bodies (R3) -/

/-- A start trigger in its ranges (R3). -/
def StartTrigger.InRange : StartTrigger → Prop
  | .atTime minute hour day month =>
    minute ≤ 59 ∧ (∀ h, hour = some h → h ≤ 23) ∧ (∀ d, day = some d → 1 ≤ d ∧ d ≤ 31) ∧
      (∀ m, month = some m → 1 ≤ m ∧ m ≤ 12) ∧ patternDayOk day month = true
  | .atDusk => True
  | .atDawn => True

/-- An end in its ranges (R3). -/
def EntryEnd.InRange : EntryEnd → Prop
  | .after n => 1 ≤ n ∧ n ≤ Config.capMinutes
  | .atTime t => t.isReal = true
  | .onLightDay => True
  | .onLightNight => True

/-- A well-formed entry body (R3): every field in its range, and the conditions that tie the fields together. -/
structure EntryBody.WellFormed (b : EntryBody) : Prop where
  trigger : b.trigger.InRange
  ending : b.ending.InRange
  weekdays : b.weekdays.toNat < 128
  classes : b.classes.toNat < 32
  dates : ∀ d, b.validFrom = some d ∨ b.validUntil = some d → d.isReal = true
  times : ∀ t, b.windowEarliest = some t ∨ b.windowLatest = some t ∨ b.startFallback = some t ∨ b.endFallback = some t →
    t.isReal = true
  count : ∀ n, b.count = some n → 1 ≤ n ∧ n ≤ 65535
  consistent : bodyConsistent b = true

/-! ## The store (R154 to R156) -/

/-- The store's invariant: the array in its canonical form, and a PROGRAM_STORE in progress whose bytes lie inside it and of which at
least one is still to come (R154 to R156). -/
structure State.StoreOk (s : State) : Prop where
  form : arrayForm s.store.array = true
  inside : ∀ pr, s.store.programming = some pr →
    pr.done < pr.values.length ∧ pr.offset + pr.values.length ≤ Config.storeBytes

/-! ## Time and light (R112, R122) -/

/-- A calendar time of the calendar range (R122). -/
def CalTime.isReal (t : CalTime) : Bool := t.date.isReal && t.tod.isReal && t.second ≤ 59

/-- The Light Monitor's items lie in their ranges (R112). -/
structure LightMonitor.Ok (l : LightMonitor) : Prop where
  confirm : l.confirm ≤ 255
  faults : l.faults ≤ 29
  limits : l.darkEnter < l.darkLeave ∧ l.darkLeave ≤ 1023
  count : 1 ≤ l.confirmCount ∧ l.confirmCount ≤ 255
  sample : ∀ v, l.lastSample = some v → v ≤ 1023

end Sys2Proof.Machine
end

