-- ==== Sys2Proof/WellFormed.lean ====
section
/-! DEFINITION. Which terms of `Instr` stand for something that can reach the part. Every meaning is total, so a term that is not
well-formed still has a next state; statements speak of well-formed ones. -/

namespace Sys2Proof

/-- The codes of the command catalogue (Chapter 11). -/
def catalogue : List Nat :=
  [0x10, 0x11, 0x12, 0x13, 0x14, 0x15, 0x16, 0x17, 0x18, 0x1F, 0x20, 0x21, 0x22, 0x23, 0x30, 0x31, 0x32, 0x33, 0x34, 0x38,
    0x39, 0x40, 0x41, 0x48, 0x49, 0x50, 0x51, 0x52, 0x58, 0x59, 0x60, 0x61, 0x68, 0x69, 0x6A, 0x6B, 0x70, 0x71, 0x72]

/-- Parameter bytes that fit a request frame: at most 60 (R170). -/
def paramsFit (p : List Byte) : Bool := p.length ≤ Config.maxParams

/-- The request that a host command row stands for: its code in the catalogue, its TAG and its parameters (Chapter 11). An event row
stands for none. -/
def Instr.request : Instr → Option (Byte × Byte × List Byte)
  | .createEntry tag p => some (0x10, tag, p)
  | .readEntry tag p => some (0x11, tag, p)
  | .modifyEntry tag p => some (0x12, tag, p)
  | .suspendEntry tag p => some (0x13, tag, p)
  | .resumeEntry tag p => some (0x14, tag, p)
  | .retireEntry tag p => some (0x15, tag, p)
  | .startEntry tag p => some (0x16, tag, p)
  | .endEntry tag p => some (0x17, tag, p)
  | .findEntries tag p => some (0x18, tag, p)
  | .clearAll tag p => some (0x1F, tag, p)
  | .addException tag p => some (0x20, tag, p)
  | .removeException tag p => some (0x21, tag, p)
  | .listExceptions tag p => some (0x22, tag, p)
  | .dayClass tag p => some (0x23, tag, p)
  | .override tag p => some (0x30, tag, p)
  | .clearOverride tag p => some (0x31, tag, p)
  | .hold tag p => some (0x32, tag, p)
  | .releaseHold tag p => some (0x33, tag, p)
  | .readChannel tag p => some (0x34, tag, p)
  | .configureChannel tag p => some (0x38, tag, p)
  | .setStagger tag p => some (0x39, tag, p)
  | .configureButton tag p => some (0x40, tag, p)
  | .readButton tag p => some (0x41, tag, p)
  | .setLightLimits tag p => some (0x48, tag, p)
  | .readLight tag p => some (0x49, tag, p)
  | .setTime tag p => some (0x50, tag, p)
  | .readTime tag p => some (0x51, tag, p)
  | .setTimeSource tag p => some (0x52, tag, p)
  | .setLineConfirm tag p => some (0x58, tag, p)
  | .readLine tag p => some (0x59, tag, p)
  | .setSupply tag p => some (0x60, tag, p)
  | .readSupply tag p => some (0x61, tag, p)
  | .readStore tag p => some (0x68, tag, p)
  | .programStore tag p => some (0x69, tag, p)
  | .loadDefaults tag p => some (0x6A, tag, p)
  | .loadStatus tag p => some (0x6B, tag, p)
  | .readChanges tag p => some (0x70, tag, p)
  | .setNoticeMask tag p => some (0x71, tag, p)
  | .identify tag p => some (0x72, tag, p)
  | .unknownCommand cmd tag p => some (cmd, tag, p)
  | .transactionStart _ => none
  | .statusByteShifted _ => none
  | .replyLatch _ => none
  | .requestFrame _ _ _ => none
  | .replyReadEnd _ _ => none
  | .portReset _ => none
  | .portResetRelease _ => none
  | .programByteDone _ => none
  | .enterBackup _ => none
  | .mainsReturn _ => none
  | .restoreCountdownExpiry _ => none
  | .retainedSupplyLoss _ => none
  | .powerUp _ _ => none
  | .secondBoundary _ => none
  | .minuteEvaluation _ => none
  | .overrideCountdown _ => none
  | .risingCrossing _ => none
  | .fallingCrossing _ => none
  | .absenceTimeout _ => none
  | .crystalStop _ => none
  | .crystalRun _ => none
  | .crystalTick _ => none
  | .coilAction _ _ => none
  | .pulseStart _ _ => none
  | .operationComplete _ _ => none
  | .buttonInputLow _ _ => none
  | .buttonInputHigh _ _ => none
  | .buttonDebounceExpiry _ _ => none
  | .buttonReleaseConfirm _ _ => none
  | .longPress _ _ => none
  | .luxSample _ _ => none
  | .loadStep _ => none
  | .restoreCountdownSecond _ => none

/-- Is a row well-formed: parameters that fit a frame, an unknown command whose code the catalogue does not have (R176), an incomplete byte
of fewer than eight bits and a request transaction that does not open as a reply read (R168), a photocell value of ten bits (R111)? -/
def Instr.wellFormed : Instr → Bool
  | .createEntry _ p => paramsFit p
  | .readEntry _ p => paramsFit p
  | .modifyEntry _ p => paramsFit p
  | .suspendEntry _ p => paramsFit p
  | .resumeEntry _ p => paramsFit p
  | .retireEntry _ p => paramsFit p
  | .startEntry _ p => paramsFit p
  | .endEntry _ p => paramsFit p
  | .findEntries _ p => paramsFit p
  | .clearAll _ p => paramsFit p
  | .addException _ p => paramsFit p
  | .removeException _ p => paramsFit p
  | .listExceptions _ p => paramsFit p
  | .dayClass _ p => paramsFit p
  | .override _ p => paramsFit p
  | .clearOverride _ p => paramsFit p
  | .hold _ p => paramsFit p
  | .releaseHold _ p => paramsFit p
  | .readChannel _ p => paramsFit p
  | .configureChannel _ p => paramsFit p
  | .setStagger _ p => paramsFit p
  | .configureButton _ p => paramsFit p
  | .readButton _ p => paramsFit p
  | .setLightLimits _ p => paramsFit p
  | .readLight _ p => paramsFit p
  | .setTime _ p => paramsFit p
  | .readTime _ p => paramsFit p
  | .setTimeSource _ p => paramsFit p
  | .setLineConfirm _ p => paramsFit p
  | .readLine _ p => paramsFit p
  | .setSupply _ p => paramsFit p
  | .readSupply _ p => paramsFit p
  | .readStore _ p => paramsFit p
  | .programStore _ p => paramsFit p
  | .loadDefaults _ p => paramsFit p
  | .loadStatus _ p => paramsFit p
  | .readChanges _ p => paramsFit p
  | .setNoticeMask _ p => paramsFit p
  | .identify _ p => paramsFit p
  | .unknownCommand cmd _ p => paramsFit p && !catalogue.contains cmd.toNat
  | .transactionStart _ => true
  | .statusByteShifted _ => true
  | .replyLatch _ => true
  | .requestFrame _ bytes oddBits => oddBits < 8 && bytes.head? != some 0xC3
  | .replyReadEnd _ _ => true
  | .portReset _ => true
  | .portResetRelease _ => true
  | .programByteDone _ => true
  | .enterBackup _ => true
  | .mainsReturn _ => true
  | .restoreCountdownExpiry _ => true
  | .retainedSupplyLoss _ => true
  | .powerUp _ _ => true
  | .secondBoundary _ => true
  | .minuteEvaluation _ => true
  | .overrideCountdown _ => true
  | .risingCrossing _ => true
  | .fallingCrossing _ => true
  | .absenceTimeout _ => true
  | .crystalStop _ => true
  | .crystalRun _ => true
  | .crystalTick _ => true
  | .coilAction _ _ => true
  | .pulseStart _ _ => true
  | .operationComplete _ _ => true
  | .buttonInputLow _ _ => true
  | .buttonInputHigh _ _ => true
  | .buttonDebounceExpiry _ _ => true
  | .buttonReleaseConfirm _ _ => true
  | .longPress _ _ => true
  | .luxSample _ value => value < 1024
  | .loadStep _ => true
  | .restoreCountdownSecond _ => true

end Sys2Proof
end

