-- ==== Sys2Proof/Certificates/Slice0/Obligations.lean ====
section
/-! DEFINITION. The statements about the KT16 that the provers settle. `Ready` (Safety.lean) is the condition under which a request is
taken at the instant it arrives. An event row's `dt` is the time that passes before it, so its statements speak of `s.elapse dt`. -/

open Sys2Proof Sys2Proof.Machine

/-! ## The machine -/

/-- A step takes the command at the front of the queue and leaves the rest waiting. -/
def Obligations.StepTakesFrontCommand : Prop :=
  ∀ (i : Instr) (rest : List Instr) (s : State), s.pending = i :: rest → step s = exec i (s.setPending rest)

/-- On an empty queue the part takes the event that its clocks make due, or lets one period pass: the model's choice, log 2. -/
def Obligations.StepOnEmptyQueue : Prop :=
  ∀ s : State, s.pending = [] →
    (∀ e, s.dueEvent = some e → step s = exec e s) ∧ (s.dueEvent = none → step s = .next (s.elapse 1))

/-- What time does: the oscillator counts always, the crystal while it runs, the second in progress on the crystal source; a stopped
domain counts nothing (R124, R127, R143; the unit of `dt` is the model's, log 2). -/
def Obligations.TimePassesOnTheClocks : Prop :=
  ∀ (s : State) (dt : Nat),
    (s.supply.stopped = true → s.elapse dt = s) ∧
    (s.supply.stopped = false → s.time.crystalRunning = true → s.time.source = .crystal →
      s.elapse dt = { s with
        cycles := s.cycles + dt, osc := s.osc + dt, time := { s.time with elapsed := s.time.elapsed + dt } }) ∧
    (s.supply.stopped = false → s.time.crystalRunning = true → s.time.source = .line →
      s.elapse dt = { s with cycles := s.cycles + dt, osc := s.osc + dt }) ∧
    (s.supply.stopped = false → s.time.crystalRunning = false → s.elapse dt = { s with osc := s.osc + dt })

/-- The cold-start values that the spec's tables give, at reset (R1, R53, R62, R64, R81, R85, R86, R87, R93, R100, R103, R112, R123,
R133, R141, R146, R154, R174 to R176, R184). That the load has ended on an erased store, so that load-pending is clear and LOAD_DONE
stands beside COLD_START, is log 4. -/
def Obligations.ResetHasColdStartValues : Prop :=
  let s := State.reset
  (∀ i, s.slot i = ⟨0, none⟩) ∧ s.table.endedOrder = [] ∧ s.calendar = ⟨[], .normal⟩ ∧ s.freeCount = 192 ∧
  (∀ c, (s.chan c).claims = [] ∧ (s.chan c).target = false ∧ (s.chan c).config = ⟨.unused, false, true, 0, 0, 2, 2⟩ ∧
    (s.chan c).driven = .off ∧ (s.chan c).switch = .idle ∧ (s.chan c).lastCompletion = none ∧
    (s.chan c).pinA = false ∧ (s.chan c).pinB = false) ∧
  s.engine.queue = [] ∧ s.engine.stagger = 4 ∧
  (∀ b, (s.button b).channels = 0 ∧ (s.button b).ending = .after 120 ∧ (s.button b).enabled = false ∧
    (s.button b).lastOutcome = .nothing ∧ (s.button b).lastMinute = none ∧ (s.button b).press = .released) ∧
  s.light.state = .unknown ∧ s.light.confirm = 0 ∧ s.light.side = .none ∧ s.light.faults = 0 ∧ s.light.darkEnter = 120 ∧
  s.light.darkLeave = 200 ∧ s.light.confirmCount = 60 ∧ s.light.lastSample = none ∧ s.light.lastEvent = none ∧
  s.time.time = ⟨⟨2000, 1, 1⟩, ⟨0, 0⟩, 0⟩ ∧ s.time.elapsed = 0 ∧ s.time.validity = .unset ∧ s.time.preference = .auto ∧
  s.time.source = .crystal ∧ s.time.divisor = none ∧
  s.line.state = .absent ∧ s.line.counting = none ∧ s.line.agreement = 0 ∧ s.line.verdict = none ∧
  s.line.disagreement = 0 ∧ s.line.confirmCount = 16 ∧ s.line.measureStart = none ∧ s.line.lastCrossing = none ∧
  s.line.lastPeriod = none ∧
  s.supply.state = .restoring ∧ s.supply.restoreDelay = 10 ∧ s.supply.countdown = some 10 ∧
  s.supply.signatureValid = true ∧ s.supply.restoreKind = .cold ∧ s.supply.backupCount = 0 ∧
  s.supply.lastFailure = none ∧ s.supply.lastReturn = none ∧
  (∀ k, readCell s.store.array k = 0xFF) ∧ s.store.programming = none ∧
  s.port.requests = [] ∧ s.port.replies = [] ∧ s.port.executorBusy = false ∧ s.port.discard = false ∧
  s.port.mask = 0xF ∧ s.attn = true ∧ s.pending = []

/-! ## Frames and the executor -/

/-- REQUEST_FRAME with the frame of a host command row, in a transaction of an active port, does what the row does once CSN has risen.
With the frame of any request and a free place, the request joins the tail of the queue and the executor makes its test: a request that
finds the executor BUSY or no reply place free waits, and one that finds the port ready is handed to its block at once. Without a
transaction only CSN rises (R170, R176). -/
def Obligations.FrameIsTheCommand : Prop :=
  (∀ (i : Instr) (c t : Byte) (p : List Byte) (s : State) (dt : Nat) (tr : Transaction),
    i.wellFormed = true → i.request = some (c, t, p) →
    (s.elapse dt).port.transaction = some tr → (s.elapse dt).portActive = true →
    exec (.requestFrame dt (Request.frame ⟨c, t, p⟩) 0) s = exec i (s.elapse dt).raiseCsn) ∧
  (∀ (rq : Request) (s : State) (dt : Nat) (tr : Transaction),
    let u := (s.elapse dt).raiseCsn
    let v := u.setPort { u.port with requests := u.port.requests ++ [rq] }
    rq.params.length ≤ 60 → (s.elapse dt).port.transaction = some tr → u.port.requests.length < 4 →
    exec (.requestFrame dt rq.frame 0) s = .next v.executor ∧
    (u.port.executorBusy = true ∨ 4 ≤ u.port.replies.length → exec (.requestFrame dt rq.frame 0) s = .next v) ∧
    (u.Ready → exec (.requestFrame dt rq.frame 0) s = .next (u.execute rq))) ∧
  ∀ (s : State) (dt odd : Nat) (bytes : List Byte), (s.elapse dt).port.transaction = none →
    exec (.requestFrame dt bytes odd) s = .next (s.elapse dt).raiseCsn

/-- A request transaction whose frame fails a check sets the discard flag and does nothing else; one without a whole byte is ignored
(R168, R170). -/
def Obligations.BadFramesAreDiscarded : Prop :=
  ∀ (s : State) (dt odd : Nat) (tr : Transaction) (bytes : List Byte), (s.elapse dt).port.transaction = some tr →
    (bytes = [] → exec (.requestFrame dt bytes odd) s = .next (s.elapse dt).raiseCsn) ∧
    (bytes ≠ [] → bytes.head? ≠ some 0xC3 →
      (bytes.head? ≠ some 0x3C ∨ bytes.length < 4 ∨ 60 < (bytes.getD 3 0).toNat ∨
        bytes.length ≠ (bytes.getD 3 0).toNat + 5 ∨ odd ≠ 0 ∨
        crc8 ((bytes.drop 1).take ((bytes.getD 3 0).toNat + 3)) ≠ bytes.getD (bytes.length - 1) 0 ∨
        4 ≤ (s.elapse dt).port.requests.length) →
      exec (.requestFrame dt bytes odd) s =
        .next { s.elapse dt with port := { (s.elapse dt).port with csnLow := false, transaction := none, discard := true } })

/-- A host command row on an active port whose executor is BUSY joins the queue if there is a place and is discarded if there is none;
on a port that is not active nothing happens. When the executor's test is done, either no request waits or the executor cannot take one
(R168, R170, R174, R176, R177). -/
def Obligations.RequestsWaitForTheExecutor : Prop :=
  (∀ (i : Instr) (c t : Byte) (p : List Byte) (s : State), i.wellFormed = true → i.request = some (c, t, p) →
    (s.portActive = true → s.port.executorBusy = true → s.port.requests.length < 4 →
      exec i s = .next (s.setPort { s.port with requests := s.port.requests ++ [⟨c, t, p⟩] })) ∧
    (s.portActive = true → 4 ≤ s.port.requests.length → exec i s = .next (s.setPort { s.port with discard := true })) ∧
    (s.portActive = false → exec i s = .next s)) ∧
  (∀ s : State, s.executor.executorFree = true → s.executor.port.requests = [])

/-- On a ready port a host command is refused, and then nothing has changed but that a reply with the refusal and no payload stands at
the tail; or it was taken, and then one reply with its TAG, its code and OK or ACCEPTED stands there; or it is a PROGRAM_STORE that holds
the executor. A code that names no command of the catalogue is UNKNOWN_COMMAND (R176, R177, R180). -/
def Obligations.RefusalsChangeNothing : Prop :=
  (∀ (i : Instr) (c t : Byte) (p : List Byte) (s : State), s.Ready → i.wellFormed = true → i.request = some (c, t, p) →
    (∃ r : Result, r ≠ .ok ∧ r ≠ .accepted ∧ exec i s = .next (s.pushReply ⟨t, c, r, []⟩)) ∨
    (∃ (u : State) (q : List Byte), exec i s = .next u ∧
      u.port.replies = s.port.replies ++ [⟨t, c, if c = 0x6A then .accepted else .ok, q⟩] ∧
      u.port.requests = [] ∧ u.port.executorBusy = false) ∨
    (∃ u : State, c = 0x69 ∧ exec i s = .next u ∧ u.port.executorBusy = true ∧ u.port.replies = s.port.replies)) ∧
  (∀ (s : State) (cmd tag : Byte) (p : List Byte), s.Ready → p.length ≤ 60 → catalogue.contains cmd.toNat = false →
    exec (.unknownCommand cmd tag p) s = .next (s.pushReply ⟨tag, cmd, .unknownCommand, []⟩))

/-- While a load runs, the commands of the left column are refused BUSY, whatever their parameters (R163). -/
def Obligations.BusyDuringLoad : Prop :=
  ∀ (s : State) (tag : Byte) (p : List Byte), s.Ready → s.loadRunning = true → p.length ≤ 60 →
    exec (.createEntry tag p) s = .next (s.refusedWith 0x10 tag .busy) ∧
    exec (.modifyEntry tag p) s = .next (s.refusedWith 0x12 tag .busy) ∧
    exec (.suspendEntry tag p) s = .next (s.refusedWith 0x13 tag .busy) ∧
    exec (.resumeEntry tag p) s = .next (s.refusedWith 0x14 tag .busy) ∧
    exec (.retireEntry tag p) s = .next (s.refusedWith 0x15 tag .busy) ∧
    exec (.startEntry tag p) s = .next (s.refusedWith 0x16 tag .busy) ∧
    exec (.endEntry tag p) s = .next (s.refusedWith 0x17 tag .busy) ∧
    exec (.clearAll tag p) s = .next (s.refusedWith 0x1F tag .busy) ∧
    exec (.addException tag p) s = .next (s.refusedWith 0x20 tag .busy) ∧
    exec (.removeException tag p) s = .next (s.refusedWith 0x21 tag .busy) ∧
    exec (.configureChannel tag p) s = .next (s.refusedWith 0x38 tag .busy) ∧
    exec (.configureButton tag p) s = .next (s.refusedWith 0x40 tag .busy) ∧
    exec (.setLightLimits tag p) s = .next (s.refusedWith 0x48 tag .busy) ∧
    exec (.programStore tag p) s = .next (s.refusedWith 0x69 tag .busy) ∧
    exec (.loadDefaults tag []) s = .next (s.refusedWith 0x6A tag .busy)

/-! ## Invariants that every step keeps -/

/-- The reset state meets every invariant below. -/
def Obligations.ResetMeetsInvariants : Prop :=
  let s := State.reset
  s.EngineOk ∧ s.TargetsOk ∧ s.PortOk ∧ changesOk s.port.changes ∧ s.StoreOk ∧ s.CalendarOk ∧ s.time.time.isReal = true ∧
    s.light.Ok ∧ s.RelaysAgree ∧ s.ScheduleOk

/-- Every step keeps the Switching Engine's invariant: each QUEUED channel is in the queue once and no other is, the pins agree with
kind and switch state, and outside RUN nothing is in hand. With it, every step keeps each queued channel's target different from its
driven state, and the coil pin of each MONO channel energized exactly while its relay is ON and no operation in flight has taken its coil
action, or one intended ON has taken it (R82, R86, R87, R99, R100). -/
def Obligations.StepKeepsEngineInvariant : Prop :=
  (∀ s t : State, s.EngineOk → step s = .next t → t.EngineOk) ∧
  (∀ s t : State, s.EngineOk → s.RelaysAgree → step s = .next t → t.RelaysAgree)

/-- Every step leaves each target at its head claim's action, or at the rest state of an empty list (R62). Every step also keeps the lists
and orders themselves: each claim list in its order with at most one hold and one override (R61); an entry ACTIVE exactly when it holds
one claim on each channel of its set, each claim with its entry's priority, action and start (R60, R64); the free count 192 less the
schedule claims held (R64); and the ENDED order the ENDED entries by ended-at, then by slot (R15). -/
def Obligations.StepKeepsTargets : Prop :=
  (∀ s t : State, s.TargetsOk → step s = .next t → t.TargetsOk) ∧
  (∀ s t : State, s.ScheduleOk → step s = .next t → t.ScheduleOk)

/-- Every step keeps the port's invariant: four requests, four replies, an executor BUSY exactly for a PROGRAM_STORE with its reply
place free, nothing in BACKUP (R174 to R179). -/
def Obligations.StepKeepsPortInvariant : Prop :=
  ∀ s t : State, s.PortOk → step s = .next t → t.PortOk

/-- Every step keeps the change set in read order, each kind and index at most once, with no empty reason set (R181 to R183). -/
def Obligations.StepKeepsChangeSet : Prop :=
  ∀ s t : State, changesOk s.port.changes → step s = .next t → changesOk t.port.changes

/-- Every step keeps the store's canonical form, and no bit of the array ever returns to 1 (R154, R155). -/
def Obligations.StoreBitsOnlyFall : Prop :=
  ∀ s t : State, s.StoreOk → step s = .next t →
    t.StoreOk ∧ ∀ k, readCell t.store.array k &&& readCell s.store.array k = readCell t.store.array k

/-- Every step keeps the calendar: at most 48 records, in list order, no two in conflict (R50, R51). -/
def Obligations.StepKeepsCalendar : Prop :=
  ∀ s t : State, s.CalendarOk → step s = .next t → t.CalendarOk

/-- Every step keeps the calendar time within the calendar range, and the Light Monitor's items in their ranges: the fault counter
never holds 30 (R112, R116, R122). -/
def Obligations.StepKeepsTimeAndLightRanges : Prop :=
  (∀ s t : State, s.time.time.isReal = true → step s = .next t → t.time.time.isReal = true) ∧
  (∀ s t : State, s.light.Ok → step s = .next t → t.light.Ok)

/-! ## The Schedule Table -/

/-- A well-formed entry body written in its layout reads back as itself (R3, R191). -/
def Obligations.EntryBodyRoundTrip : Prop :=
  ∀ b : EntryBody, b.WellFormed → bodyLengthOk (writeBody b) = true ∧ readBody (writeBody b) = some b

/-- CREATE_ENTRY makes a HOST entry in the lowest FREE slot, else in the reclaimed head of the ENDED order, with the state its dates
judge and the catch-up check behind it; TABLE_FULL with neither, EXPIRED_ALREADY for a body already past (R13, R14). The catch-up check
does nothing unless time is VALID and the entry is ARMED with the flag. It finds the latest minute of the last 24 hours at which the entry
would have started, and the end that minute gives. If now is before that end the entry starts now, with that end instant and a cap of
1440, or is MISSED for want of pool records; otherwise, or with no such minute, nothing changes (R43, R44). -/
def Obligations.CreateEntryMakesEntry : Prop :=
  (∀ (s : State) (tag : Byte) (p : List Byte) (b : EntryBody), s.Ready → s.loadRunning = false → bodyLengthOk p = true →
    readBody p = some b →
    let e : Entry := ⟨.host, b, if s.judge b = .armed then .armed else .waiting, 0, 0, none⟩
    (s.judge b = .expired → exec (.createEntry tag p) s = .next (s.refusedWith 0x10 tag .expiredAlready)) ∧
    (s.judge b ≠ .expired → ∀ i, (s.slot i).entry = none → (∀ j, j < i → (s.slot j).entry ≠ none) →
      let t := ((s.setEntry i e).raiseEntry i .created).catchUp i
      exec (.createEntry tag p) s = .next (t.replied 0x10 tag [byteOf i.val, (s.slot i).generation, t.stateCode i])) ∧
    (s.judge b ≠ .expired → (∀ i, (s.slot i).entry ≠ none) → ∀ j rest, s.table.endedOrder = j :: rest →
      let r := (s.clearSlot j).raiseEntry j .reclaimed
      let t := ((r.setEntry j e).raiseEntry j .created).catchUp j
      exec (.createEntry tag p) s =
        .next (t.replied 0x10 tag [byteOf j.val, (s.slot j).generation + 1, t.stateCode j])) ∧
    (s.judge b ≠ .expired → (∀ i, (s.slot i).entry ≠ none) → s.table.endedOrder = [] →
      exec (.createEntry tag p) s = .next (s.refusedWith 0x10 tag .tableFull))) ∧
  ∀ (s : State) (i : SlotNo) (gen : Byte) (e : Entry), s.slot i = ⟨gen, some e⟩ → s.time.time.isReal = true →
    e.body.trigger.InRange →
    (s.time.validity ≠ .valid ∨ e.body.catchUp = false ∨ e.state ≠ .armed → s.catchUp i = s) ∧
    ((∀ m, ¬ s.WouldStart e.body m) → s.catchUp i = s) ∧
    (∀ m at_, s.time.validity = .valid → e.body.catchUp = true → e.state = .armed → e.body.ending = .atTime at_ →
      s.LatestStart e.body m →
      let finish := m.firstAfter at_
      (finish.key ≤ s.now.key → s.catchUp i = s) ∧
      (s.now.key < finish.key → s.freeCount < setSize e.body.channels →
        s.catchUp i = (s.setEntry i { e with missed := min 255 (e.missed + 1) }).raiseEntry i .missed) ∧
      (s.now.key < finish.key → setSize e.body.channels ≤ s.freeCount →
        (s.catchUp i).slot i = ⟨gen, some { e with
          state := .active ⟨s.now, some finish, none, none, 1440⟩ false, starts := min 65535 (e.starts + 1),
          lastStart := some s.today, body := { e.body with count := e.body.count.map (· - 1) } }⟩ ∧
        (s.catchUp i).freeCount = s.freeCount - setSize e.body.channels ∧
        ∀ c ∈ channelsOf e.body.channels,
          ⟨.schedule i gen e.body.priority, e.body.action, s.now⟩ ∈ ((s.catchUp i).chan c).claims))

/-- READ_ENTRY returns the whole record of the entry that its handle names, and changes nothing (R16, R191). FIND_ENTRIES returns the
first 32 matching entries from the cursor, in ascending slot order, each as handle and state, and the slot after the last one examined
(R23). The mark of an expiry that is not set and the bytes of the filter are the model's (logs 9 and 10). -/
def Obligations.ReadAndFindEntries : Prop :=
  (∀ (s : State) (tag slot gen : Byte) (i : SlotNo) (e : Entry), s.Ready → readSlotNo slot = some i →
    s.slot i = ⟨gen, some e⟩ →
    exec (.readEntry tag [slot, gen]) s = .next (s.replied 0x11 tag ([slot, gen] ++ writeRecord e))) ∧
  (∀ (s : State) (tag channel states origin cursor : Byte), s.Ready → filterOk channel states origin cursor = true →
    let matching := (allSlots.drop cursor.toNat).filter fun i =>
      (s.slot i).entry.any fun e => e.matchesFilter channel states origin
    let hits := matching.take 32
    let next := if 32 ≤ matching.length then (matching.getD 31 0).val + 1 else 128
    exec (.findEntries tag [channel, states, origin, cursor]) s = .next (s.replied 0x18 tag
      ([byteOf hits.length] ++ (hits.flatMap fun i => [byteOf i.val, (s.slot i).generation, s.stateCode i]) ++ [byteOf next])))

/-- A slot number of 128 or above is BAD_FIELD, and a handle of a FREE slot or of another generation STALE_HANDLE, at every command that
takes a handle (R2). -/
def Obligations.HandlesAreChecked : Prop :=
  ∀ (s : State) (tag slot gen : Byte) (body : List Byte), s.Ready → s.loadRunning = false → bodyLengthOk body = true →
    ∀ x ∈ [(Instr.readEntry tag [slot, gen], (0x11 : Byte)), (.modifyEntry tag (slot :: gen :: body), 0x12),
        (.suspendEntry tag [slot, gen], 0x13), (.resumeEntry tag [slot, gen], 0x14), (.retireEntry tag [slot, gen], 0x15),
        (.startEntry tag [slot, gen], 0x16), (.endEntry tag [slot, gen], 0x17)],
      (128 ≤ slot.toNat → exec x.1 s = .next (s.refusedWith x.2 tag .badField)) ∧
      (∀ i, readSlotNo slot = some i → (s.slot i).entry = none ∨ (s.slot i).generation ≠ gen →
        exec x.1 s = .next (s.refusedWith x.2 tag .staleHandle))

/-- MODIFY_ENTRY replaces the body, removing any claims, and judges the state afresh; an ENDED entry is WRONG_STATE and a body already
past EXPIRED_ALREADY (R17). -/
def Obligations.ModifyEntryReplacesBody : Prop :=
  ∀ (s : State) (tag slot gen : Byte) (body : List Byte) (i : SlotNo) (e : Entry) (b : EntryBody), s.Ready →
    s.loadRunning = false → bodyLengthOk body = true → readSlotNo slot = some i → s.slot i = ⟨gen, some e⟩ →
    readBody body = some b →
    (e.state.isEnded = true → exec (.modifyEntry tag (slot :: gen :: body)) s = .next (s.refusedWith 0x12 tag .wrongState)) ∧
    (e.state.isEnded = false → s.judge b = .expired →
      exec (.modifyEntry tag (slot :: gen :: body)) s = .next (s.refusedWith 0x12 tag .expiredAlready)) ∧
    (e.state.isEnded = false → s.judge b ≠ .expired →
      let u := if e.state.isActive then (s.removeClaims i e.body).raiseEntry i .claimEnded else s
      let v := u.setEntry i { e with
        origin := .host, body := b, state := if s.judge b = .armed then .armed else .waiting }
      let t := (v.raiseEntry i .modified).catchUp i
      exec (.modifyEntry tag (slot :: gen :: body)) s = .next (t.replied 0x12 tag [t.stateCode i]))

/-- SUSPEND_ENTRY sets an entry aside, taking its claims, or ends one whose last occurrence was in force; RESUME_ENTRY returns it as its
dates judge (R18, R19). -/
def Obligations.SuspendAndResumeEntry : Prop :=
  ∀ (s : State) (tag slot gen : Byte) (i : SlotNo) (e : Entry), s.Ready → s.loadRunning = false → readSlotNo slot = some i →
    s.slot i = ⟨gen, some e⟩ →
    (e.state.isEnded = true ∨ e.state = .suspended →
      exec (.suspendEntry tag [slot, gen]) s = .next (s.refusedWith 0x13 tag .wrongState)) ∧
    (e.state = .waiting ∨ e.state = .armed →
      exec (.suspendEntry tag [slot, gen]) s =
        .next (((s.setEntry i { e with state := .suspended }).raiseEntry i .modified).replied 0x13 tag [4])) ∧
    (e.state.isActive = true →
      let u := (s.removeClaims i e.body).raiseEntry i .claimEnded
      exec (.suspendEntry tag [slot, gen]) s = .next (
        if e.body.count = some 0 then
          (((u.toEnded i e .spent).raiseEntry i .spent).raiseEntry i .modified).replied 0x13 tag [5]
        else ((u.setEntry i { e with state := .suspended }).raiseEntry i .modified).replied 0x13 tag [4])) ∧
    (e.state ≠ .suspended → exec (.resumeEntry tag [slot, gen]) s = .next (s.refusedWith 0x14 tag .wrongState)) ∧
    (e.state = .suspended → s.judge e.body = .waiting →
      exec (.resumeEntry tag [slot, gen]) s =
        .next (((s.setEntry i { e with state := .waiting }).raiseEntry i .modified).replied 0x14 tag [1])) ∧
    (e.state = .suspended → s.judge e.body = .armed →
      let t := ((s.setEntry i { e with state := .armed }).raiseEntry i .modified).catchUp i
      exec (.resumeEntry tag [slot, gen]) s = .next (t.replied 0x14 tag [t.stateCode i])) ∧
    (e.state = .suspended → s.judge e.body = .expired →
      exec (.resumeEntry tag [slot, gen]) s =
        .next ((((s.toEnded i e .expired).raiseEntry i .expired).raiseEntry i .modified).replied 0x14 tag [5]))

/-- RETIRE_ENTRY empties the slot and advances its generation; an ACTIVE entry's claims are gone; every other slot, every channel outside
the entry's set and everything outside the schedule blocks stands (R1, R20). -/
def Obligations.RetireEntryFreesSlot : Prop :=
  ∀ (s : State) (tag slot gen : Byte) (i : SlotNo) (e : Entry), s.Ready → s.loadRunning = false → readSlotNo slot = some i →
    s.slot i = ⟨gen, some e⟩ →
    ∃ t : State, exec (.retireEntry tag [slot, gen]) s = .next (t.replied 0x15 tag []) ∧ s.SameElsewhere t ∧
      t.slot i = ⟨gen + 1, none⟩ ∧ (∀ j, j ≠ i → t.slot j = s.slot j) ∧ i ∉ t.table.endedOrder ∧ t.calendar = s.calendar ∧
      (∀ c, c ∉ channelsOf e.body.channels → t.chan c = s.chan c) ∧
      t.freeCount = (if e.state.isActive then s.freeCount + setSize e.body.channels else s.freeCount) ∧
      (e.state.isActive = true → ∀ c ∈ channelsOf e.body.channels, ∀ x ∈ (t.chan c).claims, x.isOf i = false)

/-- START_ENTRY starts an ARMED entry, its claims on every channel of its set and its pool records drawn; reports MISSED when the pool is
short; restarts an ACTIVE one whose count allows it, its claim on each channel of the set taking the start instant of now and the place this
gives it; and is WRONG_STATE otherwise (R10, R21, R41, R65, R66). -/
def Obligations.StartEntryPlacesClaims : Prop :=
  ∀ (s : State) (tag slot gen : Byte) (i : SlotNo) (e : Entry), s.Ready → s.loadRunning = false → readSlotNo slot = some i →
    s.slot i = ⟨gen, some e⟩ →
    (e.state = .armed → setSize e.body.channels ≤ s.freeCount →
      ∃ t : State, exec (.startEntry tag [slot, gen]) s = .next (t.replied 0x16 tag [0]) ∧ s.SameElsewhere t ∧
        t.slot i = ⟨gen, some (e.started s.now none false)⟩ ∧ (∀ j, j ≠ i → t.slot j = s.slot j) ∧
        t.freeCount = s.freeCount - setSize e.body.channels ∧ t.calendar = s.calendar ∧
        (∀ c, c ∉ channelsOf e.body.channels → t.chan c = s.chan c) ∧
        (∀ c ∈ channelsOf e.body.channels,
          ⟨.schedule i gen e.body.priority, e.body.action, s.now⟩ ∈ (t.chan c).claims ∧
          (t.chan c).target = targetOf (t.chan c).claims (t.chan c).config.rest)) ∧
    (e.state = .armed → s.freeCount < setSize e.body.channels →
      exec (.startEntry tag [slot, gen]) s =
        .next (((s.setEntry i { e with missed := min 255 (e.missed + 1) }).raiseEntry i .missed).replied 0x16 tag [1])) ∧
    (∀ c m, e.state = .active c m → e.body.count ≠ some 0 →
      ∃ t : State, exec (.startEntry tag [slot, gen]) s = .next (t.replied 0x16 tag [0]) ∧ s.SameElsewhere t ∧
        t.slot i = ⟨gen, some (e.started s.now none m)⟩ ∧ (∀ j, j ≠ i → t.slot j = s.slot j) ∧
        t.freeCount = s.freeCount ∧ t.calendar = s.calendar ∧
        (∀ c, c ∉ channelsOf e.body.channels → t.chan c = s.chan c) ∧
        (∀ c ∈ channelsOf e.body.channels, ∀ x, (s.chan c).claims.filter (Claim.isOf i) = [x] →
          (t.chan c).claims = insertClaim { x with start := s.now } ((s.chan c).claims.filter fun y => !y.isOf i) ∧
          (t.chan c).target = targetOf (t.chan c).claims (t.chan c).config.rest)) ∧
    (e.offered = false → exec (.startEntry tag [slot, gen]) s = .next (s.refusedWith 0x16 tag .wrongState))

/-- END_ENTRY ends an ACTIVE entry's claim: its claims are gone, its pool records returned, and it is ARMED, or ENDED by its count or its
mark; any other state is WRONG_STATE (R9, R22). -/
def Obligations.EndEntryRemovesClaims : Prop :=
  ∀ (s : State) (tag slot gen : Byte) (i : SlotNo) (e : Entry), s.Ready → s.loadRunning = false → readSlotNo slot = some i →
    s.slot i = ⟨gen, some e⟩ →
    (∀ c m, e.state = .active c m →
      let after : EntryState :=
        if e.body.count = some 0 then .ended .spent s.now else if m then .ended .expired s.now else .armed
      ∃ t : State, exec (.endEntry tag [slot, gen]) s = .next (t.replied 0x17 tag [after.code]) ∧ s.SameElsewhere t ∧
        t.slot i = ⟨gen, some { e with state := after }⟩ ∧ (∀ j, j ≠ i → t.slot j = s.slot j) ∧
        t.freeCount = s.freeCount + setSize e.body.channels ∧ t.calendar = s.calendar ∧
        (∀ c, c ∉ channelsOf e.body.channels → t.chan c = s.chan c) ∧
        (∀ c ∈ channelsOf e.body.channels, ∀ x ∈ (t.chan c).claims, x.isOf i = false)) ∧
    (e.state.isActive = false → exec (.endEntry tag [slot, gen]) s = .next (s.refusedWith 0x17 tag .wrongState))

/-- CLEAR_ALL leaves every slot FREE with the generations of the retired ones advanced, the ENDED order empty, no exceptions, no
override, and every hold as it was (R24, R59, R78). -/
def Obligations.ClearAllEmpties : Prop :=
  ∀ (s : State) (tag : Byte), s.Ready → s.loadRunning = false →
    ∃ t : State, exec (.clearAll tag []) s = .next (t.replied 0x1F tag []) ∧ s.SameElsewhere t ∧
      (∀ i, t.slot i = ⟨if (s.slot i).entry.isSome then (s.slot i).generation + 1 else (s.slot i).generation, none⟩) ∧
      ((∀ i ∈ s.table.endedOrder, (s.slot i).entry.isSome = true) → t.table.endedOrder = []) ∧
      t.calendar = ⟨[], .normal⟩ ∧
      (∀ c, (t.chan c).claims.any Claim.isOverride = false) ∧
      (∀ c, (t.chan c).claims.filter Claim.isHold = (s.chan c).claims.filter Claim.isHold) ∧
      (∀ c, (t.chan c).target = targetOf (t.chan c).claims (t.chan c).config.rest)

/-- MINUTE_EVALUATION takes the claim ends in slot order, then the day-rollover work at 00:00, then the starts while time is VALID; with no
minute tick owed only time passes, which is the model's form (logs 3 and 16). At 00:00 the calendar does its day work, and at no other
minute does it change (R33, R53, R54); with time not VALID no entry changes but by a claim end. An entry alone in the table: an ACTIVE one
whose claim end is due ends, as SPENT, as EXPIRED or back to ARMED, and counts down otherwise (R9, R32); at 00:00 with time VALID one past
its valid-until ends EXPIRED, an ACTIVE one gets the mark, and a WAITING one whose valid-from is reached is ARMED (R7, R8, R33); one that
is ARMED by then and is offered a start by its pattern or its fallback starts, or is MISSED for want of pool records, and an ACTIVE one
restarts; any other stands (R34, R35). -/
def Obligations.MinuteEvaluationStages : Prop :=
  (∀ (s : State) (dt : Nat),
    let u := s.elapse dt
    (u.time.tableTickOwed = true → u.supply.stopped = false →
      let ends := (u.setTimeBase { u.time with tableTickOwed := false }).forEach allSlots State.tickSlot
      let rolled := if ends.time.time.tod = ⟨0, 0⟩ then ends.dayRollover else ends
      exec (.minuteEvaluation dt) s =
        .next (if rolled.time.validity = .valid then rolled.forEach allSlots State.startSlot else rolled)) ∧
    (u.time.tableTickOwed = false → exec (.minuteEvaluation dt) s = .next u) ∧
    (u.time.tableTickOwed = true → u.supply.stopped = false →
      ∃ t : State, exec (.minuteEvaluation dt) s = .next t ∧ (u.time.time.tod = ⟨0, 0⟩ → u.DayWorkDone t) ∧
        (u.time.time.tod ≠ ⟨0, 0⟩ → t.calendar = u.calendar) ∧
        (u.time.validity ≠ .valid → ∀ i, ((u.slot i).entry.any fun e => e.state.isActive) = false → t.slot i = u.slot i))) ∧
  (∀ (s : State) (dt : Nat) (i : SlotNo) (gen : Byte) (e : Entry),
    let u := s.elapse dt
    u.time.tableTickOwed = true → u.supply.stopped = false → u.Alone i gen e →
    let midnight := u.time.validity = .valid ∧ u.time.time.tod = ⟨0, 0⟩
    let expired := midnight ∧ e.body.Past u.today
    let offered := u.StartOffered e (if u.time.time.tod = ⟨0, 0⟩ then classOn u.calendar.records u.today else u.calendar.todayClass)
    ∃ t : State, exec (.minuteEvaluation dt) s = .next t ∧
      (let at_ (st : EntryState) : Prop := t.slot i = ⟨gen, some { e with state := st }⟩;
        let placed : Prop := ∀ c ∈ channelsOf e.body.channels,
          ⟨.schedule i gen e.body.priority, e.body.action, u.now⟩ ∈ (t.chan c).claims;
        (∀ k m, e.state = .active k m → u.EndDue k →
          (e.body.count = some 0 → at_ (.ended .spent u.now)) ∧
          (e.body.count ≠ some 0 → m = true ∨ expired → at_ (.ended .expired u.now)) ∧
          (e.body.count ≠ some 0 → m = false → ¬ expired → ¬ offered → at_ .armed) ∧
          (e.body.count = some 0 ∨ m = true ∨ ¬ offered →
            t.NoClaims i e.body.channels ∧ t.freeCount = u.freeCount + setSize e.body.channels) ∧
          (e.body.count ≠ some 0 → m = false → offered → t.slot i = ⟨gen, some (e.started u.now none false)⟩ ∧ placed)) ∧
        (∀ k m, e.state = .active k m → ¬ u.EndDue k →
          let lowered : ClaimState := { k with cap := k.cap - 1, remaining := k.remaining.map (· - 1) }
          (expired → at_ (.active lowered true) ∧ ∀ c, (t.chan c).claims = (u.chan c).claims) ∧
          (¬ expired → ¬ offered ∨ e.body.count = some 0 →
            at_ (.active lowered m) ∧ ∀ c, (t.chan c).claims = (u.chan c).claims) ∧
          (offered → e.body.count ≠ some 0 →
            t.slot i = ⟨gen, some (e.started u.now none m)⟩ ∧ t.freeCount = u.freeCount)) ∧
        (e.state = .waiting ∨ e.state = .armed ∨ e.state = .suspended → expired →
          at_ (.ended .expired u.now) ∧ i ∈ t.table.endedOrder ∧ t.Reports .entry i.val 5) ∧
        (e.state = .armed ∨ (e.state = .waiting ∧ midnight ∧ ¬ e.body.Early u.today) → ¬ expired →
          (¬ offered → at_ .armed) ∧
          (offered → setSize e.body.channels ≤ u.freeCount →
            t.slot i = ⟨gen, some (e.started u.now none false)⟩ ∧ t.freeCount = u.freeCount - setSize e.body.channels ∧ placed) ∧
          (offered → u.freeCount < setSize e.body.channels →
            t.slot i = ⟨gen, some { e with state := .armed, missed := min 255 (e.missed + 1) }⟩ ∧ t.Reports .entry i.val 6 ∧
              ∀ c, t.chan c = u.chan c)) ∧
        ((e.state = .waiting ∧ ¬ (midnight ∧ ¬ e.body.Early u.today)) ∨ e.state = .suspended → ¬ expired → at_ e.state) ∧
        (e.state.isEnded = true → at_ e.state)))

/-! ## The Exception Calendar -/

/-- ADD_EXCEPTION adds a record at its list place, or refuses it as past, OVERLAP or CALENDAR_FULL, in that order; REMOVE_EXCEPTION
removes the records of the kind that begin on the day, or answers NOT_FOUND (R55, R56). -/
def Obligations.AddAndRemoveException : Prop :=
  ∀ (s : State) (tag head f1 f2 f3 l1 l2 l3 : Byte), s.Ready → s.loadRunning = false →
    (∀ x, readException head f1 f2 f3 l1 l2 l3 = some x →
      let r : ExceptionRecord := ⟨x.1, x.2, .host⟩
      let past := s.timeValid && r.lapsed s.today
      let clash := s.calendar.records.any fun y => y.span.conflicts r.span
      let add := exec (.addException tag [head, f1, f2, f3, l1, l2, l3]) s
      (past = true → add = .next (s.refusedWith 0x20 tag .badField)) ∧
      (past = false → clash = true → add = .next (s.refusedWith 0x20 tag .overlap)) ∧
      (past = false → clash = false → 48 ≤ s.calendar.records.length → add = .next (s.refusedWith 0x20 tag .calendarFull)) ∧
      (past = false → clash = false → s.calendar.records.length < 48 →
        let t := ((s.setCalendar { s.calendar with
          records := insertException r s.calendar.records }).recomputeToday).raiseCalendar .changed
        add = .next (t.replied 0x20 tag [byteOf (s.calendar.records.length + 1), byteOf t.calendar.todayClass.code]))) ∧
    (∀ x, readFirstDay head f1 f2 f3 = some x →
      let remove := exec (.removeException tag [head, f1, f2, f3]) s
      let kept := s.calendar.records.filter fun r => !r.span.startsOn x
      (s.calendar.records.any (fun r => r.span.startsOn x) = false → remove = .next (s.refusedWith 0x21 tag .notFound)) ∧
      (s.calendar.records.any (fun r => r.span.startsOn x) = true →
        let t := ((s.setCalendar { s.calendar with records := kept }).recomputeToday).raiseCalendar .changed
        remove = .next (t.replied 0x21 tag [byteOf kept.length, byteOf t.calendar.todayClass.code])))

/-- LIST_EXCEPTIONS returns up to 8 records from a list position, and DAY_CLASS the class, source and first day that the lookup gives for
a date (R57, R58). -/
def Obligations.ListAndClassifyDays : Prop :=
  ∀ (s : State) (tag : Byte) (p : List Byte), s.Ready → p.length ≤ 60 →
    (p.length ≠ 1 → exec (.listExceptions tag p) s = .next (s.refusedWith 0x22 tag .badLength)) ∧
    (∀ c : Byte, 48 < c.toNat → exec (.listExceptions tag [c]) s = .next (s.refusedWith 0x22 tag .badField)) ∧
    (∀ c : Byte, c.toNat ≤ 48 →
      let records := s.calendar.records
      let shown := (records.drop c.toNat).take 8
      exec (.listExceptions tag [c]) s = .next (s.replied 0x22 tag
        ([byteOf shown.length, byteOf records.length, byteOf s.calendar.todayClass.code] ++ shown.flatMap writeException ++
          [byteOf (if shown = [] then records.length else c.toNat + shown.length)]))) ∧
    (p.length ≠ 3 → exec (.dayClass tag p) s = .next (s.refusedWith 0x23 tag .badLength)) ∧
    (∀ y m d : Byte, readDate y m d = none → exec (.dayClass tag [y, m, d]) s = .next (s.refusedWith 0x23 tag .badField)) ∧
    (∀ (y m d : Byte) (date : Date), readDate y m d = some date →
      exec (.dayClass tag [y, m, d]) s = .next (s.replied 0x23 tag (
        match s.calendar.records.find? (fun r => !r.span.isAnnual && r.span.covers date),
            s.calendar.records.find? (fun r => r.span.isAnnual && r.span.covers date) with
        | some ⟨.dated first _, cls, _⟩, _ => [byteOf cls.code, 0] ++ writeDate first
        | _, some ⟨.annual first _, cls, _⟩ => [byteOf cls.code, 1] ++ writeMonthDay first
        | _, _ => [0, 2, 0xFF, 0xFF, 0xFF])))

/-! ## The Claim Manager -/

/-- OVERRIDE places a HOST override on each channel of a set, replacing one there, and CLEAR_OVERRIDE removes them; the targets follow,
and every other channel, every configuration and driven state, the table, the calendar and the pool stand (R68, R73, R74). The
order of the parameter bytes is the model's (log 8). -/
def Obligations.OverridePlacesAndClears : Prop :=
  ∀ (s : State) (tag hi lo a e m1 m0 : Byte), s.Ready →
    let cs := channelsOf (readSet hi lo)
    (readFlag a = none ∨ readEnding e m1 m0 = none ∨ readSet hi lo = 0 →
      exec (.override tag [hi, lo, a, e, m1, m0]) s = .next (s.refusedWith 0x30 tag .badField)) ∧
    (∀ on en, readFlag a = some on → readEnding e m1 m0 = some en → readSet hi lo ≠ 0 →
      ∃ t : State, exec (.override tag [hi, lo, a, e, m1, m0]) s =
          .next (t.replied 0x30 tag (writeSet (setOf (cs.filter fun c => (s.chan c).target != (t.chan c).target)))) ∧
        s.SameElsewhere t ∧ t.table = s.table ∧ t.calendar = s.calendar ∧ t.freeCount = s.freeCount ∧
        (∀ c, c ∉ cs → t.chan c = s.chan c) ∧
        ∀ c ∈ cs, (t.chan c).claims = insertClaim ⟨.override .host en 1440, on, s.now⟩
            ((s.chan c).claims.filter fun x => !x.isOverride) ∧
          (t.chan c).target = targetOf (t.chan c).claims (s.chan c).config.rest ∧
          (t.chan c).config = (s.chan c).config ∧ (t.chan c).driven = (s.chan c).driven ∧
          (t.chan c).pinA = (s.chan c).pinA ∧ (t.chan c).pinB = (s.chan c).pinB) ∧
    (readSet hi lo = 0 → exec (.clearOverride tag [hi, lo]) s = .next (s.refusedWith 0x31 tag .badField)) ∧
    (readSet hi lo ≠ 0 →
      ∃ t : State, exec (.clearOverride tag [hi, lo]) s =
          .next (t.replied 0x31 tag (writeSet (setOf (cs.filter fun c => (s.chan c).claims.any Claim.isOverride)))) ∧
        s.SameElsewhere t ∧ t.table = s.table ∧ t.calendar = s.calendar ∧ t.freeCount = s.freeCount ∧
        (∀ c, c ∉ cs → t.chan c = s.chan c) ∧
        ∀ c ∈ cs, (t.chan c).claims = ((s.chan c).claims.filter fun x => !x.isOverride) ∧
          (t.chan c).target = targetOf (t.chan c).claims (s.chan c).config.rest ∧
          (t.chan c).config = (s.chan c).config ∧ (t.chan c).driven = (s.chan c).driven ∧
          (t.chan c).pinA = (s.chan c).pinA ∧ (t.chan c).pinB = (s.chan c).pinB)

/-- HOLD places a hold on each channel of a set, or replaces the one there, the claims beneath kept; RELEASE_HOLD removes them (R71, R75,
R76). -/
def Obligations.HoldPlacesAndReleases : Prop :=
  ∀ (s : State) (tag hi lo a : Byte), s.Ready →
    let cs := channelsOf (readSet hi lo)
    (readFlag a = none ∨ readSet hi lo = 0 → exec (.hold tag [hi, lo, a]) s = .next (s.refusedWith 0x32 tag .badField)) ∧
    (∀ on, readFlag a = some on → readSet hi lo ≠ 0 →
      ∃ t : State, exec (.hold tag [hi, lo, a]) s =
          .next (t.replied 0x32 tag (writeSet (setOf (cs.filter fun c => (s.chan c).target != (t.chan c).target)))) ∧
        s.SameElsewhere t ∧ t.table = s.table ∧ t.calendar = s.calendar ∧ t.freeCount = s.freeCount ∧
        (∀ c, c ∉ cs → t.chan c = s.chan c) ∧
        ∀ c ∈ cs, (t.chan c).claims = insertClaim ⟨.hold, on, s.now⟩ ((s.chan c).claims.filter fun x => !x.isHold) ∧
          (t.chan c).target = targetOf (t.chan c).claims (s.chan c).config.rest ∧
          (t.chan c).config = (s.chan c).config ∧ (t.chan c).driven = (s.chan c).driven) ∧
    (readSet hi lo = 0 → exec (.releaseHold tag [hi, lo]) s = .next (s.refusedWith 0x33 tag .badField)) ∧
    (readSet hi lo ≠ 0 →
      ∃ t : State, exec (.releaseHold tag [hi, lo]) s =
          .next (t.replied 0x33 tag (writeSet (setOf (cs.filter fun c => (s.chan c).claims.any Claim.isHold)) ++
            writeSet (setOf (cs.filter fun c => (s.chan c).target != (t.chan c).target)))) ∧
        s.SameElsewhere t ∧ t.table = s.table ∧ t.calendar = s.calendar ∧ t.freeCount = s.freeCount ∧
        (∀ c, c ∉ cs → t.chan c = s.chan c) ∧
        ∀ c ∈ cs, (t.chan c).claims = ((s.chan c).claims.filter fun x => !x.isHold) ∧
          (t.chan c).target = targetOf (t.chan c).claims (s.chan c).config.rest ∧
          (t.chan c).config = (s.chan c).config ∧ (t.chan c).driven = (s.chan c).driven)

/-- READ_CHANNEL returns the channel's configuration, target, driven and switch state, the free count, and up to 8 claims from a position
(R77). -/
def Obligations.ReadChannelReturnsState : Prop :=
  ∀ (s : State) (tag n pos : Byte), s.Ready →
    (16 ≤ n.toNat ∨ 130 < pos.toNat → exec (.readChannel tag [n, pos]) s = .next (s.refusedWith 0x34 tag .badField)) ∧
    (∀ c : Chan, n.toNat = c.val → pos.toNat ≤ 130 →
      let ch := s.chan c
      let shown := (ch.claims.drop pos.toNat).take 8
      exec (.readChannel tag [n, pos]) s = .next (s.replied 0x34 tag
        ([ch.config.kind.code, if ch.config.rest then 1 else 0, if ch.config.align then 1 else 0,
            byteOf ch.config.operateDelay, byteOf ch.config.releaseDelay, byteOf ch.config.pulseWidth] ++
          twoBytes ch.config.dwell ++
          [if ch.target then 1 else 0, ch.driven.code, ch.switch.code, byteOf s.freeCount, byteOf ch.claims.length,
            byteOf shown.length] ++
          shown.flatMap writeClaim ++
          [byteOf (if shown = [] then ch.claims.length else pos.toNat + shown.length)])))

/-- OVERRIDE_COUNTDOWN lowers every override, removes those that have run out, and computes the targets (R69); with no minute tick owed
only time passes, which is the model's form (logs 3 and 16). -/
def Obligations.OverrideCountdownLowers : Prop :=
  ∀ (s : State) (dt : Nat),
    let u := s.elapse dt
    (u.time.claimTickOwed = true → u.supply.stopped = false →
      ∃ t : State, exec (.overrideCountdown dt) s = .next t ∧ t.table = u.table ∧ t.freeCount = u.freeCount ∧
        t.time = { u.time with claimTickOwed := false } ∧ t.store = u.store ∧ t.supply = u.supply ∧
        ∀ c, (t.chan c).claims =
            (let lowered := (u.chan c).claims.map Claim.lowered
              if lowered.any Claim.runOut then lowered.filter fun x => !x.isOverride else lowered) ∧
          (t.chan c).target = targetOf (t.chan c).claims (u.chan c).config.rest ∧
          (t.chan c).config = (u.chan c).config ∧ (t.chan c).driven = (u.chan c).driven) ∧
    (u.time.claimTickOwed = false → exec (.overrideCountdown dt) s = .next u)

/-! ## The Switching Engine -/

/-- CONFIGURE_CHANNEL stores the settings; a kind change de-energizes the pins and gives a fresh driven state; a rest-state change
recomputes the target; a channel in flight is WRONG_STATE; every other channel stands (R83, R84). SET_STAGGER stores a limit of 1..16 and
replies with it; any other value is BAD_FIELD (R93). -/
def Obligations.SwitchingCommands : Prop :=
  (∀ (s : State) (tag n k r a o l w d1 d0 : Byte), s.Ready → s.loadRunning = false →
    (readChannelNo n = none ∨ readConfig k r a o l w d1 d0 = none →
      exec (.configureChannel tag [n, k, r, a, o, l, w, d1, d0]) s = .next (s.refusedWith 0x38 tag .badField)) ∧
    (∀ (c : Chan) (cfg : ChannelConfig), readChannelNo n = some c → readConfig k r a o l w d1 d0 = some cfg →
      ((s.chan c).switch.inFlight = true →
        exec (.configureChannel tag [n, k, r, a, o, l, w, d1, d0]) s = .next (s.refusedWith 0x38 tag .wrongState)) ∧
      ((s.chan c).switch.inFlight = false →
        ∃ t : State, exec (.configureChannel tag [n, k, r, a, o, l, w, d1, d0]) s =
            .next (t.replied 0x38 tag [if (t.chan c).target then 1 else 0, (t.chan c).driven.code, (t.chan c).switch.code]) ∧
          s.SameElsewhere t ∧ t.table = s.table ∧ t.calendar = s.calendar ∧ t.freeCount = s.freeCount ∧
          (∀ d, d ≠ c → t.chan d = s.chan d) ∧ (t.chan c).config = cfg ∧ (t.chan c).claims = (s.chan c).claims ∧
          (t.chan c).target =
            (if cfg.rest = (s.chan c).config.rest then (s.chan c).target else targetOf (s.chan c).claims cfg.rest) ∧
          (cfg.kind = (s.chan c).config.kind →
            (t.chan c).driven = (s.chan c).driven ∧ (t.chan c).lastCompletion = (s.chan c).lastCompletion ∧
            (t.chan c).pinA = (s.chan c).pinA ∧ (t.chan c).pinB = (s.chan c).pinB) ∧
          (cfg.kind ≠ (s.chan c).config.kind →
            (t.chan c).driven = (if cfg.kind = .bi then .unknown else .off) ∧ (t.chan c).lastCompletion = none ∧
            (t.chan c).pinA = false ∧ (t.chan c).pinB = false)))) ∧
  (∀ (s : State) (tag n : Byte) (p : List Byte), s.Ready → p.length ≤ 60 →
    (p.length ≠ 1 → exec (.setStagger tag p) s = .next (s.refusedWith 0x39 tag .badLength)) ∧
    (n.toNat = 0 ∨ 16 < n.toNat → exec (.setStagger tag [n]) s = .next (s.refusedWith 0x39 tag .badField)) ∧
    (1 ≤ n.toNat → n.toNat ≤ 16 →
      exec (.setStagger tag [n]) s =
        .next (State.replied { s with engine := { s.engine with stagger := n.toNat } } 0x39 tag [n])))

/-- CRYSTAL_TICK, when due, advances the tick and outside LOCKED makes a switching slot; a slot grants the requests whose dwell has
elapsed, from the head, up to the stagger limit, and leaves the rest in order (R90, R91). A CRYSTAL_TICK that is not due lets only time
pass, which is the model's choice (log 16), as is the step at which the instants of a granted operation are rounded (log 6). -/
def Obligations.SlotGrantsFromTheHead : Prop :=
  (∀ (s : State) (dt : Nat),
    let u := s.elapse dt
    let v := u.setEngine { u.engine with nextTick := u.engine.nextTick + 1 }
    (u.tickDue = true → exec (.crystalTick dt) s = .next (if u.line.state = .locked then v else v.switchingSlot)) ∧
    (u.tickDue = false → exec (.crystalTick dt) s = .next u)) ∧
  ∀ u : State, u.engine.queue.Nodup →
    let granted := (u.engine.queue.filter fun c => (u.chan c).dwellElapsed u.cycles).take u.engine.stagger
    let t := u.switchingSlot
    t.engine = { u.engine with queue := u.engine.queue.filter fun c => !granted.contains c } ∧
    ∀ c, t.chan c = if c ∈ granted then
      { u.chan c with switch := .issued ((u.chan c).operation u.cycles (u.alignment c)) } else u.chan c

/-- The target crossing of an aligned operation is a predicted crossing no earlier than the grant plus the delay, and the first such one
(R94, R137; rounding, log 6). -/
def Obligations.TargetCrossingIsEarliest : Prop :=
  ∀ last period now delay : Nat, 0 < period → last ≤ now →
    let c := targetCrossing last period now delay
    now + delay ≤ c ∧ (∃ k, 1 ≤ k ∧ c = last + halfPeriods k period) ∧
    ∀ k, 1 ≤ k → now + delay ≤ last + halfPeriods k period → c ≤ last + halfPeriods k period

/-- COIL_ACTION drives DRVnA for the intended state, PULSE_START energizes the pin and makes the channel PULSING, and
OPERATION_COMPLETE sets the driven state and the last completion and queues the channel again if its target has moved (R95, R96, R98). -/
def Obligations.OperationInstants : Prop :=
  ∀ (s : State) (dt : Nat) (c : Chan) (op : Operation),
    let u := s.elapse dt
    let ch := u.chan c
    (ch.config.kind = .mono → ch.switch = .issued op → op.acted = false → op.pin = .a → op.actionAt ≤ u.cycles →
      exec (.coilAction dt c) s =
        .next (u.setChan c { ch with switch := .issued { op with acted := true }, pinA := op.intended })) ∧
    (ch.config.kind = .bi → ch.switch = .issued op → op.actionAt ≤ u.cycles →
      exec (.pulseStart dt c) s = .next (u.setChan c (match op.pin with
        | .a => { ch with switch := .pulsing op, pinA := true }
        | .b => { ch with switch := .pulsing op, pinB := true }))) ∧
    (ch.config.kind = .mono → ch.switch = .issued op → op.acted = true → op.completeAt ≤ u.cycles →
      let v := (u.setChan c { ch with
        driven := if op.intended then .on else .off, lastCompletion := some op.completeAt, switch := .idle }).raiseChannel
          c .drivenChanged
      exec (.operationComplete dt c) s = .next (if op.intended = ch.target then v else v.enqueue c)) ∧
    (ch.config.kind = .bi → ch.switch = .pulsing op → op.completeAt ≤ u.cycles →
      let w := match op.pin with
        | .a => { ch with pinA := false }
        | .b => { ch with pinB := false }
      let v := (u.setChan c { w with
        driven := if op.intended then .on else .off, lastCompletion := some op.completeAt, switch := .idle }).raiseChannel
          c .drivenChanged
      exec (.operationComplete dt c) s = .next (if op.intended = ch.target then v else v.enqueue c))

/-! ## The Button Unit -/

/-- CONFIGURE_BUTTON stores the settings, with RELEASED when the button is turned off; READ_BUTTON returns settings, press state, input
level and last action, and changes nothing (R104, R105; the codes of the level and the fields of the replies, log 11). -/
def Obligations.ButtonCommands : Prop :=
  ∀ (s : State) (tag n hi lo e m1 m0 on : Byte) (b : ButtonNo) (en : OverrideEnding) (flag : Bool), s.Ready →
    n.toNat = b.val →
    (s.loadRunning = false → readEnding e m1 m0 = some en → readFlag on = some flag → (flag = true → readSet hi lo ≠ 0) →
      ∃ press : PressState,
        exec (.configureButton tag [n, hi, lo, e, m1, m0, on]) s =
          .next ((s.setButton b { s.button b with
              channels := readSet hi lo, ending := en, enabled := flag, press := press }).replied 0x40 tag
            (writeSet (readSet hi lo) ++ [en.code] ++ twoBytes en.minutes ++ [if flag then 1 else 0, press.code])) ∧
        (flag = false → press = .released) ∧
        (flag = true → (s.button b).enabled = true → press = (s.button b).press) ∧
        (flag = true → (s.button b).enabled = false →
          press = if (s.button b).sampledLow then .longDone none else .released)) ∧
    (s.loadRunning = false → readFlag on = some true → readSet hi lo = 0 →
      exec (.configureButton tag [n, hi, lo, e, m1, m0, on]) s = .next (s.refusedWith 0x40 tag .badField)) ∧
    (let x := s.button b;
      exec (.readButton tag [n]) s = .next (s.replied 0x41 tag
        (writeSet x.channels ++ [x.ending.code] ++ twoBytes x.ending.minutes ++
          [if x.enabled then 1 else 0, x.press.code, if x.sampledLow then 1 else 0, x.lastOutcome.code] ++
          orAbsent 5 writeMinute x.lastMinute)))

/-- The edges of a button input: low opens the debounce at P, high before P + 30 ms drops the press, low still at P + 30 ms confirms it;
a bounce in PRESSED only starts a new high run. Low again before a high run has lasted 30 ms leaves PRESSED, or from P + 3 s on takes the
waiting long press, unless the crystal is stopped, when it waits on; low again after 30 ms finds the release taken, and opens the next
debounce (R106). 30 ms are 983 cycles and 3 s 98304 (R124); an edge at the end of a high run comes after it (log 19). -/
def Obligations.PressTiming : Prop :=
  ∀ (s : State) (dt : Nat) (b : ButtonNo),
    let u := s.elapse dt
    let x := u.button b
    x.enabled = true → u.supply.state ≠ .backup →
    (x.press = .released → x.pinLow = false →
      exec (.buttonInputLow dt b) s =
        .next (u.setButton b { x with pinLow := true, sampledLow := true, press := .debouncing u.cycles })) ∧
    (∀ p, x.press = .debouncing p → x.pinLow = true → u.cycles < p + 983 →
      exec (.buttonInputHigh dt b) s =
        .next (u.setButton b { x with pinLow := false, sampledLow := false, press := .released })) ∧
    (∀ p h, x.press = .pressed p h → x.pinLow = true →
      exec (.buttonInputHigh dt b) s =
        .next (u.setButton b { x with pinLow := false, sampledLow := false, press := .pressed p (some u.cycles) })) ∧
    (∀ p, x.press = .debouncing p → x.pinLow = true → p + 983 ≤ u.cycles →
      exec (.buttonDebounceExpiry dt b) s = .next (u.setButton b { x with press := .pressed p none })) ∧
    (let low (p : PressState) : State := u.setButton b { x with pinLow := true, sampledLow := true, press := p };
      (∀ p h, x.press = .pressed p (some h) → x.pinLow = false → u.cycles < h + 983 →
        (u.cycles < p + 98304 ∨ u.time.crystalRunning = false →
          exec (.buttonInputLow dt b) s = .next (low (.pressed p none))) ∧
        (p + 98304 ≤ u.cycles → u.time.crystalRunning = true →
          exec (.buttonInputLow dt b) s =
            .next (((low (.pressed p (some h))).longPressAction b).setPress b (.longDone none)))) ∧
      (∀ p h, x.press = .pressed p (some h) → x.pinLow = false → h + 983 ≤ u.cycles → p + 49152 ≤ h →
        exec (.buttonInputLow dt b) s = .next (u.setButton b { x with
          pinLow := true, sampledLow := true, press := .debouncing u.cycles, lastOutcome := .noAction,
          lastMinute := some u.now })) ∧
      (∀ h, x.press = .longDone (some h) → x.pinLow = false →
        exec (.buttonInputLow dt b) s =
          .next (low (if h + 983 ≤ u.cycles then .debouncing u.cycles else .longDone none))))

/-- A confirmed release is a short press below 1.5 s, which overrides every unheld channel of the set in the direction its targets give,
and asks for nothing at 1.5 s or more; a long press at 3 s removes the overrides of the unheld channels; a release after a long press does
nothing more. Held channels keep their claims and are reported HOLD_BLOCKED; a press on a set whose channels are all held is BLOCKED, and
changes no channel (R106, R108 to R110). 1.5 s are 49152 cycles and 3 s 98304. A long press waits while the crystal is stopped
(R106); a LONG_PRESS then lets only time pass, which is the model's choice (log 16). -/
def Obligations.PressActions : Prop :=
  ∀ (s : State) (dt : Nat) (b : ButtonNo),
    let u := s.elapse dt
    let x := u.button b
    let free := (channelsOf x.channels).filter fun c => !(u.chan c).claims.any Claim.isHold
    let heldReported (t : State) : Prop :=
      ∀ c ∈ channelsOf x.channels, (u.chan c).claims.any Claim.isHold = true → t.Reports .channel c.val 3
    let blocked (t : State) (press : PressState) : Prop :=
      t.button b = { x with press := press, lastOutcome := .blocked, lastMinute := some u.now } ∧ heldReported t ∧
        t = { u with buttons := t.buttons, port := { u.port with changes := t.port.changes } } ∧ ∀ d, d ≠ b → t.button d = u.button d
    x.enabled = true → u.supply.state ≠ .backup →
    (∀ p h, x.press = .pressed p (some h) → x.pinLow = false → h + 983 ≤ u.cycles → h < p + 49152 → free ≠ [] →
      let on := !(free.any fun c => (u.chan c).target)
      ∃ t : State, exec (.buttonReleaseConfirm dt b) s = .next t ∧
        t.button b = { x with
          press := .released, lastOutcome := if on then .shortOn else .shortOff, lastMinute := some u.now } ∧
        (∀ c ∈ free, (t.chan c).claims =
          insertClaim ⟨.override (.button b) x.ending 1440, on, u.now⟩ ((u.chan c).claims.filter fun y => !y.isOverride)) ∧
        (∀ c, c ∉ free → t.chan c = u.chan c) ∧ heldReported t ∧ t.table = u.table ∧ t.calendar = u.calendar ∧ t.store = u.store) ∧
    (∀ p h, x.press = .pressed p (some h) → x.pinLow = false → h + 983 ≤ u.cycles → p + 49152 ≤ h →
      exec (.buttonReleaseConfirm dt b) s = .next (u.setButton b { x with
        press := .released, lastOutcome := .noAction, lastMinute := some u.now })) ∧
    (∀ p h, x.press = .pressed p (some h) → x.pinLow = false → h + 983 ≤ u.cycles → h < p + 49152 → free = [] →
      ∃ t : State, exec (.buttonReleaseConfirm dt b) s = .next t ∧ blocked t .released) ∧
    (∀ h, x.press = .longDone (some h) → x.pinLow = false → h + 983 ≤ u.cycles →
      exec (.buttonReleaseConfirm dt b) s = .next (u.setButton b { x with press := .released })) ∧
    (u.time.crystalRunning = false → exec (.longPress dt b) s = .next u) ∧
    (∀ p, x.press = .pressed p none → x.pinLow = true → u.time.crystalRunning = true → p + 98304 ≤ u.cycles → free = [] →
      ∃ t : State, exec (.longPress dt b) s = .next t ∧ blocked t (.longDone none)) ∧
    (∀ p, x.press = .pressed p none → x.pinLow = true → u.time.crystalRunning = true → p + 98304 ≤ u.cycles → free ≠ [] →
      ∃ t : State, exec (.longPress dt b) s = .next t ∧
        t.button b = { x with press := .longDone none, lastOutcome := .long, lastMinute := some u.now } ∧
        (∀ c ∈ free, (t.chan c).claims = ((u.chan c).claims.filter fun y => !y.isOverride)) ∧
        (∀ c, c ∉ free → t.chan c = u.chan c) ∧ heldReported t ∧ t.table = u.table ∧ t.calendar = u.calendar ∧ t.store = u.store)

/-! ## The Light Monitor -/

/-- SET_LIGHT_LIMITS stores three limits in range with DARK_ENTER below DARK_LEAVE, and READ_LIGHT returns the Light Monitor's items and
changes nothing (R118, R119). -/
def Obligations.LightCommands : Prop :=
  ∀ (s : State) (tag e1 e0 l1 l0 c : Byte) (p : List Byte), s.Ready → p.length ≤ 60 →
    let enter := natOf e1 e0
    let leave := natOf l1 l0
    (s.loadRunning = false → p.length ≠ 5 → exec (.setLightLimits tag p) s = .next (s.refusedWith 0x48 tag .badLength)) ∧
    (s.loadRunning = false → 1023 < enter ∨ 1023 < leave ∨ c = 0 ∨ leave ≤ enter →
      exec (.setLightLimits tag [e1, e0, l1, l0, c]) s = .next (s.refusedWith 0x48 tag .badField)) ∧
    (s.loadRunning = false → enter ≤ 1023 → leave ≤ 1023 → c ≠ 0 → enter < leave →
      exec (.setLightLimits tag [e1, e0, l1, l0, c]) s =
        .next (State.replied { s with light :=
          { s.light with darkEnter := enter, darkLeave := leave, confirmCount := c.toNat } } 0x48 tag
          [e1, e0, l1, l0, c, s.light.state.code])) ∧
    (p ≠ [] → exec (.readLight tag p) s = .next (s.refusedWith 0x49 tag .badLength)) ∧
    (let l := s.light;
      exec (.readLight tag []) s = .next (s.replied 0x49 tag
        ([l.state.code, byteOf l.confirm, if l.state = .unknown then l.side.code else 0xFF, byteOf l.faults] ++
          twoBytes l.darkEnter ++ twoBytes l.darkLeave ++ [byteOf l.confirmCount] ++ orAbsent 2 twoBytes l.lastSample ++
          (match l.lastEvent with
            | some (ev, m) => ev.code :: writeMinute m
            | none => [0xFF, 0xFF, 0xFF, 0xFF, 0xFF, 0xFF]))))

/-- LUX_SAMPLE, when due: the sample that completes a dark run in DUSKING makes NIGHT, records DUSK and hands it to the Schedule Table;
one that does not reach C only counts; a run in UNKNOWN settles without an event; the 30th rail sample makes FAULT; each change of state
adds LIGHT (R111 to R117). With limits in their ranges the runs toward DAWN mirror those toward DUSK (R113, R114); in UNKNOWN a run to
either side counts, begins again at 1 when the side changes and at 0 on a between sample, and settles silently at C (R115); 30 in-range
samples in a row lead out of FAULT to UNKNOWN (R116). At the Schedule Table the event first ends the claims that wait for it, in slot
order, then offers the starts. An entry alone in the table that waits for the event ends; one of its trigger, not started today, on an
eligible day and with VALID time within its dates and its window, starts if it is ARMED by then, or is MISSED for want of pool records,
and restarts with its mark kept if it is ACTIVE; with neither an end nor a start the machine stands (R36, R37, R41). -/
def Obligations.SampleIsClassified : Prop :=
  (∀ (s : State) (dt v : Nat),
    let u := s.elapse dt
    let l := u.light
    let seen := { l with lastSample := some v, nextSample := l.nextSample + 32768, faults := 0 }
    u.supply.state ≠ .backup → u.time.crystalRunning = true → l.nextSample ≤ u.cycles → v < 1024 →
    (l.state = .dusking → v ≠ 0 → v ≠ 1023 → v < l.darkEnter → l.confirmCount ≤ l.confirm + 1 →
      exec (.luxSample dt v) s = .next (((u.setLight { seen with
        state := .night, confirm := 0, lastEvent := some (.dusk, u.now) }).raiseSystem .light).lightEvent .dusk)) ∧
    (l.state = .dusking → v ≠ 0 → v ≠ 1023 → v < l.darkEnter → l.confirm + 1 < l.confirmCount →
      exec (.luxSample dt v) s = .next (u.setLight { seen with confirm := l.confirm + 1 })) ∧
    (l.state = .unknown → l.side = .dark → v ≠ 0 → v ≠ 1023 → v < l.darkEnter → l.confirmCount ≤ l.confirm + 1 →
      exec (.luxSample dt v) s =
        .next ((u.setLight { seen with state := .night, confirm := 0, side := .none }).raiseSystem .light)) ∧
    (l.state ≠ .fault → v = 0 ∨ v = 1023 → l.faults = 29 →
      exec (.luxSample dt v) s =
        .next ((u.setLight { seen with state := .fault, confirm := 0, side := .none }).raiseSystem .light)) ∧
    (l.state ≠ .fault → v = 0 ∨ v = 1023 → l.faults < 29 →
      exec (.luxSample dt v) s = .next (u.setLight { seen with faults := l.faults + 1 }))) ∧
  (∀ (s : State) (dt v : Nat),
    let u := s.elapse dt
    let l := u.light
    let seen := { l with lastSample := some v, nextSample := l.nextSample + 32768, faults := 0 }
    let sampled := exec (.luxSample dt v) s
    let changed (m : LightMonitor) : State := (u.setLight m).raiseSystem .light
    u.supply.state ≠ .backup → u.time.crystalRunning = true → l.nextSample ≤ u.cycles → l.Ok → v ≠ 0 → v < 1023 →
    (l.state = .day → v < l.darkEnter → 1 < l.confirmCount →
      sampled = .next (changed { seen with state := .dusking, confirm := 1 })) ∧
    (l.state = .day → v < l.darkEnter → l.confirmCount = 1 →
      sampled = .next ((changed { seen with
        state := .night, confirm := 0, lastEvent := some (.dusk, u.now) }).lightEvent .dusk)) ∧
    (l.state = .dusking → l.darkLeave ≤ v → sampled = .next (changed { seen with state := .day, confirm := 0 })) ∧
    (l.state = .night → l.darkLeave ≤ v → 1 < l.confirmCount →
      sampled = .next (changed { seen with state := .dawning, confirm := 1 })) ∧
    ((l.state = .night ∧ l.darkLeave ≤ v ∧ l.confirmCount = 1) ∨
        (l.state = .dawning ∧ l.darkLeave ≤ v ∧ l.confirmCount ≤ l.confirm + 1) →
      sampled = .next ((changed { seen with
        state := .day, confirm := 0, lastEvent := some (.dawn, u.now) }).lightEvent .dawn)) ∧
    (l.state = .dawning → l.darkLeave ≤ v → l.confirm + 1 < l.confirmCount →
      sampled = .next (u.setLight { seen with confirm := l.confirm + 1 })) ∧
    (l.state = .dawning → v < l.darkEnter → sampled = .next (changed { seen with state := .night, confirm := 0 })) ∧
    ((l.state = .night ∧ v < l.darkLeave) ∨ (l.state = .day ∧ l.darkEnter ≤ v) ∨
        ((l.state = .dusking ∨ l.state = .dawning) ∧ l.darkEnter ≤ v ∧ v < l.darkLeave) →
      sampled = .next (u.setLight seen)) ∧
    (∀ side settled, l.state = .unknown →
        (side = .dark ∧ settled = .night ∧ v < l.darkEnter) ∨ (side = .bright ∧ settled = .day ∧ l.darkLeave ≤ v) →
      let n := if l.side = side then l.confirm + 1 else 1
      (n < l.confirmCount → sampled = .next (u.setLight { seen with confirm := n, side := side })) ∧
      (l.confirmCount ≤ n → sampled = .next (changed { seen with state := settled, confirm := 0, side := .none }))) ∧
    (l.state = .unknown → l.darkEnter ≤ v → v < l.darkLeave →
      sampled = .next (u.setLight { seen with confirm := 0, side := .none })) ∧
    (l.state = .fault → l.faults = 29 →
      sampled = .next (changed { seen with state := .unknown, confirm := 0, side := .none })) ∧
    (l.state = .fault → l.faults < 29 → sampled = .next (u.setLight { seen with faults := l.faults + 1 })) ∧
    (∀ rail, rail = 0 ∨ rail = 1023 → l.state = .fault →
      exec (.luxSample dt rail) s = .next (u.setLight { seen with lastSample := some rail }))) ∧
  (∀ (u : State) (ev : LightEvent), u.lightEvent ev =
    (u.forEach allSlots (State.lightEndSlot ev)).forEach allSlots (State.lightStartSlot ev)) ∧
  ∀ (u : State) (ev : LightEvent) (i : SlotNo) (gen : Byte) (e : Entry), u.Alone i gen e →
    let waitsFor : EntryEnd := match ev with | .dusk => .onLightNight | .dawn => .onLightDay
    let trigger : StartTrigger := match ev with | .dusk => .atDusk | .dawn => .atDawn
    let fits := e.body.trigger = trigger ∧ e.lastStart ≠ some u.today ∧
      e.body.eligible u.today u.calendar.todayClass = true ∧
      (u.time.validity = .valid → e.body.inForce u.today = true ∧ e.body.windowAdmits u.now.tod = true)
    let t := u.lightEvent ev
    let at_ (st : EntryState) : Prop := t.slot i = ⟨gen, some { e with state := st }⟩
    let placed : Prop := ∀ c ∈ channelsOf e.body.channels,
      ⟨.schedule i gen e.body.priority, e.body.action, u.now⟩ ∈ (t.chan c).claims
    (∀ k marked, e.state = .active k marked → e.body.ending = waitsFor →
      (e.body.count = some 0 → at_ (.ended .spent u.now)) ∧
      (e.body.count ≠ some 0 → marked = true → at_ (.ended .expired u.now)) ∧
      (e.body.count ≠ some 0 → marked = false → ¬ fits → at_ .armed) ∧
      (e.body.count = some 0 ∨ marked = true ∨ ¬ fits → t.NoClaims i e.body.channels) ∧
      (e.body.count ≠ some 0 → marked = false → fits → t.slot i = ⟨gen, some (e.started u.now none false)⟩ ∧ placed)) ∧
    (∀ k marked, e.state = .active k marked → e.body.ending ≠ waitsFor → fits → e.body.count ≠ some 0 →
      t.slot i = ⟨gen, some (e.started u.now none marked)⟩ ∧ t.freeCount = u.freeCount) ∧
    (e.state = .armed → fits → setSize e.body.channels ≤ u.freeCount →
      t.slot i = ⟨gen, some (e.started u.now none false)⟩ ∧ placed) ∧
    (e.state = .armed → fits → u.freeCount < setSize e.body.channels →
      t = (u.setEntry i { e with missed := min 255 (e.missed + 1) }).raiseEntry i .missed) ∧
    (e.state.isActive = false ∨ e.body.ending ≠ waitsFor → ¬ fits ∨ e.offered = false → t = u)

/-! ## The Time Base and the Line Monitor -/

/-- SET_TIME replaces the calendar time and makes it VALID, with the calendar's and the table's work behind it; it is BAD_FIELD for a time
that is not real and WRONG_STATE while a stopped crystal is the source (R129; log 12). The calendar does its day work for the new date
(R53, R54). An entry alone in the table: one past its valid-until ends EXPIRED or, ACTIVE, gets the mark, which is cleared when valid-until
is no longer past (R8); a WAITING one whose valid-from is reached is ARMED (R7); the claim of an AT instant at or before the new time ends;
and one that is ARMED by then has its catch-up check (R44, R45). READ_TIME returns the Time Base's items (R131).
SET_TIME_SOURCE stores a preference and judges the source (R126, R130). -/
def Obligations.TimeCommands : Prop :=
  ∀ (s : State) (tag y m d h mi sec w : Byte) (p : List Byte), s.Ready → p.length ≤ 60 →
    (readTime y m d h mi sec = none →
      exec (.setTime tag [y, m, d, h, mi, sec, w]) s = .next (s.refusedWith 0x50 tag .badField)) ∧
    (∀ t, readTime y m d h mi sec = some t → s.time.crystalRunning = false → s.time.source = .crystal →
      exec (.setTime tag [y, m, d, h, mi, sec, w]) s = .next (s.refusedWith 0x50 tag .wrongState)) ∧
    (∀ t, readTime y m d h mi sec = some t → s.time.crystalRunning = true ∨ s.time.source = .line →
      let u := s.setTimeBase { s.time with
        time := t, elapsed := 0, validity := .valid, tableTickOwed := false, claimTickOwed := false }
      let v := if s.time.validity = .valid then u else u.raiseSystem .timeValidity
      let z := v.calendarDayWork.setTimeSchedule
      exec (.setTime tag [y, m, d, h, mi, sec, w]) s =
        .next (z.replied 0x50 tag ([y, m, d, h, mi, sec] ++ [byteOf t.date.weekday, 1])) ∧
      u.DayWorkDone z ∧
      ∀ (i : SlotNo) (gen : Byte) (e : Entry), s.Alone i gen e → e.body.trigger.InRange →
        let now : CalMinute := ⟨t.date, t.tod⟩
        let past := e.body.Past t.date
        let early := e.body.Early t.date
        let marked (m : Bool) : Prop := past ∨ (m = true ∧ e.body.validUntil = none)
        let isOver (k : ClaimState) : Prop := e.body.ending.isTime = true ∧ ∃ x, k.endInstant = some x ∧ x.key ≤ now.key
        let at_ (st : EntryState) : Prop := z.slot i = ⟨gen, some { e with state := st }⟩
        let w : State := { u with calendar := z.calendar }
        (e.state = .waiting ∨ e.state = .armed ∨ e.state = .suspended → past →
          at_ (.ended .expired now) ∧ i ∈ z.table.endedOrder ∧ z.Reports .entry i.val 5) ∧
        (e.state.isEnded = true ∨ (e.state = .suspended ∧ ¬ past) ∨ (e.state = .waiting ∧ ¬ past ∧ early) → at_ e.state) ∧
        (∀ k m, e.state = .active k m → ¬ isOver k →
          (marked m → at_ (.active k true)) ∧ (¬ marked m → at_ (.active k false)) ∧ ∀ c, (z.chan c).claims = (s.chan c).claims) ∧
        (∀ k m, e.state = .active k m → isOver k →
          (e.body.count = some 0 → at_ (.ended .spent now) ∧ z.NoClaims i e.body.channels) ∧
          (e.body.count ≠ some 0 → marked m → at_ (.ended .expired now) ∧ z.NoClaims i e.body.channels)) ∧
        ((e.state = .armed ∧ ¬ past) ∨ (e.state = .waiting ∧ ¬ past ∧ ¬ early) ∨
            (∃ k m, e.state = .active k m ∧ isOver k ∧ e.body.count ≠ some 0 ∧ ¬ marked m) →
          (e.body.catchUp = false ∨ (∀ n, ¬ w.WouldStart e.body n) →
            at_ .armed ∧ (e.state.isActive = true → z.NoClaims i e.body.channels)) ∧
          (∀ n at_time, e.body.catchUp = true → e.body.ending = .atTime at_time → w.LatestStart e.body n →
            let finish := n.firstAfter at_time
            (finish.key ≤ now.key → at_ .armed) ∧
            (now.key < finish.key → setSize e.body.channels ≤ s.freeCount →
              z.slot i = ⟨gen, some (e.started now (some finish) false)⟩) ∧
            (now.key < finish.key → e.state.isActive = false → s.freeCount < setSize e.body.channels →
              z.slot i = ⟨gen, some { e with state := .armed, missed := min 255 (e.missed + 1) }⟩ ∧
                z.Reports .entry i.val 6)))) ∧
    (p ≠ [] → exec (.readTime tag p) s = .next (s.refusedWith 0x51 tag .badLength)) ∧
    exec (.readTime tag []) s = .next (s.replied 0x51 tag
      (writeMinute ⟨s.time.time.date, s.time.time.tod⟩ ++ [byteOf s.time.time.second, byteOf s.time.time.date.weekday,
        s.time.validity.code, s.time.preference.code, s.time.source.code, if s.time.crystalRunning then 0 else 1])) ∧
    (let t := (s.setTimeBase { s.time with preference := .crystal }).judgeSource;
      exec (.setTimeSource tag [1]) s = .next (t.replied 0x52 tag [1, 0]) ∧ t.time.source = .crystal) ∧
    (let t := (s.setTimeBase { s.time with preference := .auto }).judgeSource;
      exec (.setTimeSource tag [0]) s = .next (t.replied 0x52 tag [0, if s.line.state = .locked then 1 else 0])) ∧
    (1 < w.toNat → exec (.setTimeSource tag [w]) s = .next (s.refusedWith 0x52 tag .badField))

/-- SET_LINE_CONFIRM stores a K of 4..63 and touches no counter; READ_LINE returns the Line Monitor's items, each in the line state that
gives it and the classes by their places in the list none, 50, 60, and changes nothing (R133, R138, R139). -/
def Obligations.LineCommands : Prop :=
  ∀ (s : State) (tag k : Byte) (p : List Byte), s.Ready → p.length ≤ 60 →
    (p.length ≠ 1 → exec (.setLineConfirm tag p) s = .next (s.refusedWith 0x58 tag .badLength)) ∧
    (k.toNat < 4 ∨ 63 < k.toNat → exec (.setLineConfirm tag [k]) s = .next (s.refusedWith 0x58 tag .badField)) ∧
    (4 ≤ k.toNat → k.toNat ≤ 63 →
      exec (.setLineConfirm tag [k]) s =
        .next (State.replied { s with line := { s.line with confirmCount := k.toNat } } 0x58 tag [k, s.line.state.code])) ∧
    (p ≠ [] → exec (.readLine tag p) s = .next (s.refusedWith 0x59 tag .badLength)) ∧
    (let l := s.line;
      let place (k : Option LineClass) : Byte := match k with | none => 0 | some .fifty => 1 | some .sixty => 2;
      exec (.readLine tag []) s = .next (s.replied 0x59 tag
        ([l.state.code, if l.state = .locked then place l.verdict else 0xFF,
          if l.state = .acquiring then place l.counting else 0xFF,
          if l.state = .acquiring then byteOf l.agreement else 0xFF,
          if l.state = .locked then byteOf l.disagreement else 0xFF, byteOf l.confirmCount] ++
          orAbsent 2 twoBytes l.lastPeriod)))

/-- SECOND_BOUNDARY, when the elapsed count has reached 32768 cycles or N crossings, advances the calendar by one second; a roll from 59
to 0 hands a minute tick to the Schedule Table and the Claim Manager; past 2199-12-31 23:59:59 VALID time becomes DOUBTFUL (R122, R127,
R128). That a boundary taken late keeps the count beyond its limit, where R127's count returns to 0, and that a tick stays owed until its
block takes it are the model's choices (logs 2 and 3). -/
def Obligations.SecondBoundaryAdvances : Prop :=
  ∀ (s : State) (dt : Nat),
    let u := s.elapse dt
    let t := u.time
    let limit := match t.source with
      | .crystal => 32768
      | .line => t.divisor.getD 50
    t.time.isReal = true → u.supply.stopped = false → limit ≤ t.elapsed →
    ∃ v : State, exec (.secondBoundary dt) s = .next v ∧ v.time.time = t.time.nextSecond ∧
      v.time.elapsed = t.elapsed - limit ∧ v.time.source = t.source ∧
      v.time.tableTickOwed = (t.tableTickOwed || (59 ≤ t.time.second : Bool)) ∧
      v.time.claimTickOwed = (t.claimTickOwed || (59 ≤ t.time.second : Bool)) ∧
      v.time.validity = (if t.time = ⟨⟨2199, 12, 31⟩, ⟨23, 59⟩, 59⟩ ∧ t.validity = .valid then .doubtful else t.validity) ∧
      v.table = u.table ∧ v.channels = u.channels ∧ v.store = u.store ∧ v.light = u.light ∧ v.line = u.line

/-- CRYSTAL_STOP makes the crystal STOPPED with no measure start, and VALID time on the crystal source DOUBTFUL; CRYSTAL_RUN makes it
RUNNING, restarting the absence timer and the sample second (R111, R124, R125, R132, R136). The model's choices: the 66 periods of the
2 ms (log 2), the restart of the sample second and the absence timer, where R124 lets them go on (log 17), and no count for the first
cycle (log 21). -/
def Obligations.CrystalStopsAndRuns : Prop :=
  ∀ (s : State) (dt : Nat),
    let u := s.elapse dt
    u.supply.stopped = false →
    (u.time.crystalRunning = true →
      let v := { u with
        osc := u.osc + 66, time := { u.time with crystalRunning := false }, line := { u.line with measureStart := none } }
      exec (.crystalStop dt) s = .next (
        if u.time.source = .crystal ∧ u.time.validity = .valid then
          (v.setTimeBase { v.time with validity := .doubtful }).raiseSystem .timeValidity
        else v)) ∧
    (u.time.crystalRunning = false →
      exec (.crystalRun dt) s = .next { u with
        time := { u.time with crystalRunning := true }, line := { u.line with absenceFrom := u.cycles },
        light := { u.light with nextSample := u.cycles + 32768 } })

/-- RISING_CROSSING takes ABSENT to ACQUIRING. In ACQUIRING a cycle of the counting class raises the agreement counter, one of the other
class begins at 1 and an OUT one at none, and the cycle that raises the counter to K makes LOCKED with its class as verdict and hands the
seconds over. In LOCKED an agreeing cycle clears the disagreement counter and a disagreeing or OUT one raises it, leaving the last period,
and each is a line second's crossing, while the source is LINE, and a switching slot; the one that raises it to K makes ACQUIRING with no
verdict, is not counted and is no slot, and hands the seconds over. A hand-over carries the fraction of the second, as crossings or as
cycles, rounded down; it makes VALID time DOUBTFUL where the crystal is STOPPED. FALLING_CROSSING becomes the last crossing, and a slot in
LOCKED. ABSENCE_TIMEOUT takes the line to ABSENT (R125 to R127, R132, R134 to R137). -/
def Obligations.CrossingsDriveTheLine : Prop :=
  (∀ (s : State) (dt : Nat),
    let u := s.elapse dt
    let l := u.line
    let mark := { l with measureStart := some u.cycles, lastCrossing := some u.cycles, absenceFrom := u.cycles }
    u.supply.state ≠ .backup → u.time.crystalRunning = true →
    (l.state = .absent → u.time.source = .crystal →
      exec (.risingCrossing dt) s = .next
        ((u.setLine { mark with state := .acquiring, counting := none, agreement := 0 }).raiseSystem .line)) ∧
    (∀ m k, l.state = .acquiring → l.measureStart = some m → l.counting = some k → cycleClass (u.cycles - m) = some k →
      l.confirmCount ≤ l.agreement + 1 →
      exec (.risingCrossing dt) s = .next ((u.setLine { mark with
        state := .locked, verdict := some k, disagreement := 0, agreement := 0, counting := none,
        lastPeriod := some (u.cycles - m) }).raiseSystem .line).judgeSource) ∧
    (∀ m, l.state = .acquiring → l.measureStart = some m → u.time.source = .crystal →
      (∀ k, cycleClass (u.cycles - m) = some k → l.counting = some k → l.agreement + 1 < l.confirmCount →
        exec (.risingCrossing dt) s = .next
          (u.setLine { mark with agreement := l.agreement + 1, lastPeriod := some (u.cycles - m) })) ∧
      (∀ k, cycleClass (u.cycles - m) = some k → l.counting ≠ some k → 1 < l.confirmCount →
        exec (.risingCrossing dt) s = .next
          (u.setLine { mark with counting := some k, agreement := 1, lastPeriod := some (u.cycles - m) })) ∧
      (cycleClass (u.cycles - m) = none →
        exec (.risingCrossing dt) s = .next (u.setLine { mark with counting := none, agreement := 0 }))) ∧
    (∀ m k, l.state = .locked → l.measureStart = some m → l.verdict = some k → cycleClass (u.cycles - m) = some k →
      u.time.source = .line → u.time.preference = .auto →
      exec (.risingCrossing dt) s = .next (((u.setLine { mark with
        disagreement := 0, lastPeriod := some (u.cycles - m) }).setTimeBase
          { u.time with elapsed := u.time.elapsed + 1 }).switchingSlot)) ∧
    (∀ m k, l.state = .locked → l.measureStart = some m → l.verdict = some k → cycleClass (u.cycles - m) ≠ some k →
      (l.disagreement + 1 < l.confirmCount → u.time.source = .line → u.time.preference = .auto →
        exec (.risingCrossing dt) s = .next (((u.setLine { mark with disagreement := l.disagreement + 1 }).setTimeBase
          { u.time with elapsed := u.time.elapsed + 1 }).switchingSlot)) ∧
      (l.disagreement + 1 < l.confirmCount → u.time.source = .crystal → u.time.preference = .crystal →
        exec (.risingCrossing dt) s = .next (u.setLine { mark with disagreement := l.disagreement + 1 }).switchingSlot) ∧
      (l.confirmCount ≤ l.disagreement + 1 →
        exec (.risingCrossing dt) s = .next ((u.setLine { mark with
          state := .acquiring, counting := none, agreement := 0, verdict := none,
          disagreement := 0 }).raiseSystem .line).judgeSource)) ∧
    exec (.fallingCrossing dt) s = .next (
      let v := u.setLine { l with lastCrossing := some u.cycles }
      if l.state = .locked then v.switchingSlot else v) ∧
    (l.state ≠ .absent → l.absenceFrom + 1966 ≤ u.cycles →
      exec (.absenceTimeout dt) s = .next ((u.setLine { l with
        state := .absent, counting := none, verdict := none, agreement := 0, disagreement := 0, measureStart := none,
        lastCrossing := none, lastPeriod := none }).raiseSystem .line).judgeSource)) ∧
  ∀ u : State,
    let t := u.time
    let locked := t.preference = .auto ∧ u.line.state = .locked
    (locked → t.source = .line → u.judgeSource = u) ∧ (¬ locked → t.source = .crystal → u.judgeSource = u) ∧
    (∀ k, locked → t.source = .crystal → u.line.verdict = some k →
      let hertz := match k with | .fifty => 50 | .sixty => 60
      u.judgeSource = { u with
        time := { t with source := .line, divisor := some hertz, elapsed := t.elapsed * hertz / 32768 } }) ∧
    (∀ hertz, ¬ locked → t.source = .line → t.divisor = some hertz →
      let v := { u with time := { t with source := .crystal, divisor := none, elapsed := t.elapsed * 32768 / hertz } }
      (t.crystalRunning = true ∨ t.validity ≠ .valid → u.judgeSource = v) ∧
      (t.crystalRunning = false → t.validity = .valid →
        u.judgeSource = State.raiseSystem { v with time := { v.time with validity := .doubtful } } .timeValidity))

/-! ## The Supply Controller -/

/-- SET_SUPPLY stores any restore delay and leaves a countdown alone; READ_SUPPLY returns the Supply Controller's items and changes
nothing (R150, R151). -/
def Obligations.SupplyCommands : Prop :=
  ∀ (s : State) (tag d : Byte) (p : List Byte), s.Ready → p.length ≤ 60 →
    (p.length ≠ 1 → exec (.setSupply tag p) s = .next (s.refusedWith 0x60 tag .badLength)) ∧
    exec (.setSupply tag [d]) s =
      .next (State.replied { s with supply := { s.supply with restoreDelay := d.toNat } } 0x60 tag
        ([d, s.supply.state.code] ++ orAbsent 2 twoBytes s.supply.countdown)) ∧
    (p ≠ [] → exec (.readSupply tag p) s = .next (s.refusedWith 0x61 tag .badLength)) ∧
    (let c := s.supply;
      exec (.readSupply tag []) s = .next (s.replied 0x61 tag
        ([c.state.code, byteOf c.restoreDelay] ++ orAbsent 2 twoBytes c.countdown ++
          [if c.loadPending then 1 else 0, c.restoreKind.code] ++ twoBytes c.backupCount ++
          orAbsent 5 writeMinute c.lastFailure ++ orAbsent 5 writeMinute c.lastReturn)))

/-- ENTER_BACKUP: the supply's items, a load interrupted and owed, the port emptied, every operation abandoned with every pin low, the
line ABSENT, the seconds on the crystal, the light UNKNOWN, every button RELEASED; the table, the calendar, the claims and targets and
the notice mask are kept (R79, R99, R107, R120, R140, R144, R166, R179). -/
def Obligations.EnterBackupAtEveryBlock : Prop :=
  ∀ (s : State) (dt : Nat),
    let u := s.elapse dt
    u.supply.state ≠ .backup →
    ∃ t : State, exec (.enterBackup dt) s = .next t ∧
      t.supply = { u.supply with
        state := .backup, countdown := none, backupCount := min 65535 (u.supply.backupCount + 1),
        lastFailure := some u.now, loadPending := u.supply.loadPending || u.loadRunning } ∧
      (u.loadRunning = true → t.store.load = { u.store.load with state := .interrupted, phase := none }) ∧
      (u.loadRunning = false → t.store.load = u.store.load) ∧ t.store.programming = none ∧
      t.port = { u.port with
        requests := [], replies := [], executorBusy := false, discard := false, transaction := none,
        changes := t.port.changes } ∧
      (∃ i ∈ t.port.changes, i.kind = .system ∧ i.reasons.getLsbD 1 = true) ∧
      t.engine = { u.engine with queue := [] } ∧
      (∀ c, t.chan c = { u.chan c with
        switch := .idle, pinA := false, pinB := false,
        driven := match (u.chan c).config.kind, (u.chan c).switch with
          | .bi, .pulsing _ => .unknown
          | .bi, _ => (u.chan c).driven
          | _, _ => .off }) ∧
      t.line = { LineMonitor.cold with confirmCount := u.line.confirmCount, absenceFrom := u.line.absenceFrom } ∧
      t.time.source = .crystal ∧ t.time.time = u.time.time ∧
      t.light = { u.light with state := .unknown, confirm := 0, faults := 0, side := .none, lastSample := none } ∧
      (∀ b, t.button b = { u.button b with press := .released }) ∧
      t.table = u.table ∧ t.calendar = u.calendar ∧ t.freeCount = u.freeCount

/-- The byte whose millisecond is in progress when the supply falls is left at its old or at its programmed value, and every other byte
stands, whichever value is free (R157; log 1). -/
def Obligations.BackupLeavesOldOrProgrammedByte : Prop :=
  ∀ (s t : State) (dt : Nat) (pr : Programming),
    let u := s.elapse dt
    u.supply.state ≠ .backup → u.StoreOk → u.store.programming = some pr → exec (.enterBackup dt) s = .next t →
    (∀ k, k ≠ pr.offset + pr.done → readCell t.store.array k = readCell u.store.array k) ∧
    (readCell t.store.array (pr.offset + pr.done) = readCell u.store.array (pr.offset + pr.done) ∨
      readCell t.store.array (pr.offset + pr.done) =
        readCell u.store.array (pr.offset + pr.done) &&& pr.values.getD pr.done 0xFF)

/-- MAINS_RETURN with a valid signature is a warm restore: RESTORING, the countdown loaded, SUPPLY added, every record kept and the
buttons sampled (R145, R147; for a delay above 0 and no load owed). With an invalid one, the array of the store still erased, it is a
cold start: every block at its cold-start values, the port's queues empty, and the load started and ended as STORE_BAD (R146, R159).
RETAINED_SUPPLY_LOSS stops the domain and spoils the signature, and POWER_UP gives every block its cold-start values in BACKUP, entering
RESTORING at once if VMAIN is up (R143). The model's choices: POWER_UP's operands and the clocks' start at 0 (log 14), and the level last
sampled of a button in BACKUP (log 5). -/
def Obligations.MainsReturnAndPowerUp : Prop :=
  (∀ (s : State) (dt : Nat),
    let u := s.elapse dt
    u.supply.state = .backup → u.supply.stopped = false → u.supply.signatureValid = true → u.supply.loadPending = false →
    0 < u.supply.restoreDelay →
    ∃ t : State, exec (.mainsReturn dt) s = .next t ∧
      t.supply = { u.supply with
        state := .restoring, restoreKind := .warm, countdown := some u.supply.restoreDelay,
        countdownDue := u.cycles + 32768 } ∧
      t.port = { u.port with
        requests := [], replies := [], executorBusy := false, discard := false, transaction := none,
        changes := addReasons .system 0 2 u.port.changes } ∧
      t.light = { u.light with nextSample := u.cycles + 32768 } ∧
      (∀ b, t.button b = { u.button b with
        sampledLow := (u.button b).pinLow,
        press := if (u.button b).enabled && (u.button b).pinLow then .longDone none else .released }) ∧
      t.table = u.table ∧ t.calendar = u.calendar ∧ t.channels = u.channels ∧ t.freeCount = u.freeCount ∧
      t.engine = u.engine ∧ t.time = u.time ∧ t.line = u.line ∧ t.store = u.store) ∧
  (∀ (s : State) (dt : Nat),
    let u := s.elapse dt
    u.supply.state = .backup → u.supply.stopped = false → u.supply.signatureValid = false → u.store.array = [] →
    ∃ t : State, exec (.mainsReturn dt) s = .next t ∧ t.table = ScheduleTable.cold ∧ t.calendar = ⟨[], .normal⟩ ∧
      t.freeCount = 192 ∧ (∀ c, t.chan c = Channel.cold) ∧ t.engine = ⟨[], 4, u.engine.nextTick⟩ ∧
      t.time = TimeBase.cold u.time.crystalRunning ∧ t.line = LineMonitor.cold ∧
      t.light = LightMonitor.cold (u.cycles + 32768) ∧ t.supply.state = .restoring ∧ t.supply.restoreKind = .cold ∧
      t.supply.signatureValid = true ∧ t.supply.countdown = some 10 ∧ t.supply.loadPending = false ∧
      t.supply.backupCount = 0 ∧ t.supply.lastFailure = none ∧ t.supply.lastReturn = none ∧ t.supply.restoreDelay = 10 ∧
      t.store.load.state = .storeBad ∧ t.store.load.badReason = some .marker ∧ t.store.load.source = some .restore ∧
      t.store.array = [] ∧ t.store.programming = none ∧ (∀ b, t.button b = Button.cold (u.button b).pinLow) ∧
      t.port.requests = [] ∧ t.port.replies = [] ∧ t.port.executorBusy = false ∧ t.port.discard = false ∧
      t.port.transaction = none ∧
      t.port.changes = [⟨.system, 0, 0x21⟩] ∧ t.port.mask = 0xF ∧ t.attn = true) ∧
  (∀ (s : State) (dt : Nat), (s.elapse dt).supply.state = .backup →
    exec (.retainedSupplyLoss dt) s =
      .next ((s.elapse dt).setSupply { (s.elapse dt).supply with signatureValid := false, stopped := true })) ∧
  (∀ (s : State) (r : Bool), s.supply.stopped = true →
    ∃ t : State, exec (.powerUp false r) s = .next t ∧ t.supply = SupplyController.powered ∧
      t.table = ScheduleTable.cold ∧ t.calendar = ⟨[], .normal⟩ ∧ (∀ c, t.chan c = Channel.cold) ∧ t.freeCount = 192 ∧
      t.time = TimeBase.cold r ∧ t.port = HostPort.cold s.port.csnLow s.port.prstnLow [] ∧
      t.store = ⟨s.store.array, LoadRecord.cold, none⟩ ∧ (∀ b, t.button b = Button.cold (s.button b).pinLow) ∧
      t.light = LightMonitor.cold 32768 ∧ t.line = LineMonitor.cold ∧ t.engine = ⟨[], 4, 1⟩ ∧ t.cycles = 0 ∧ t.osc = 0 ∧
      exec (.powerUp true r) s = exec (.mainsReturn 0) t)

/-- RESTORE_COUNTDOWN_SECOND lowers the countdown at each crystal second from the entry, and RESTORE_COUNTDOWN_EXPIRY at 0 enters RUN: no
countdown, the last return, SUPPLY, and every MONO or BI channel out of step at the tail of the queue, in ascending order, when all are
IDLE and the queue empty as outside RUN they are (R89, R147, R148). -/
def Obligations.RestoreCountdownReachesRun : Prop :=
  ∀ (s : State) (dt : Nat),
    let u := s.elapse dt
    u.supply.state = .restoring →
    (∀ n, u.supply.countdown = some (n + 1) → u.time.crystalRunning = true → u.supply.countdownDue ≤ u.cycles →
      exec (.restoreCountdownSecond dt) s =
        .next (u.setSupply { u.supply with countdown := some n, countdownDue := u.supply.countdownDue + 32768 })) ∧
    (u.supply.countdown = some 0 → u.EngineOk →
      ∃ t : State, exec (.restoreCountdownExpiry dt) s = .next t ∧
        t.supply = { u.supply with state := .run, countdown := none, lastReturn := some u.now } ∧
        t.engine = { u.engine with queue := allChannels.filter fun c =>
          (u.chan c).config.kind != .unused && (u.chan c).driven != Driven.ofTarget (u.chan c).target } ∧
        (∀ c, t.chan c = if (u.chan c).config.kind ≠ .unused ∧ (u.chan c).driven ≠ Driven.ofTarget (u.chan c).target then
          { u.chan c with switch := .queued } else u.chan c) ∧
        t.port = { u.port with changes := addReasons .system 0 2 u.port.changes } ∧
        t.table = u.table ∧ t.calendar = u.calendar ∧ t.store = u.store ∧ t.time = u.time)

/-! ## The Default Program Store -/

/-- READ_STORE returns bytes of the array and changes nothing; a wrong length is BAD_LENGTH, and a count or range outside the array
BAD_FIELD (R158). -/
def Obligations.ReadStoreReturnsBytes : Prop :=
  ∀ (s : State) (tag o1 o0 n : Byte) (p : List Byte), s.Ready → p.length ≤ 60 →
    (p.length ≠ 3 → exec (.readStore tag p) s = .next (s.refusedWith 0x68 tag .badLength)) ∧
    (n = 0 ∨ 64 < n.toNat ∨ 2047 < natOf o1 o0 ∨ 2048 < natOf o1 o0 + n.toNat →
      exec (.readStore tag [o1, o0, n]) s = .next (s.refusedWith 0x68 tag .badField)) ∧
    (n ≠ 0 → n.toNat ≤ 64 → natOf o1 o0 + n.toNat ≤ 2048 →
      exec (.readStore tag [o1, o0, n]) s = .next (s.replied 0x68 tag
        ([o1, o0, n] ++ (List.range n.toNat).map fun k => readCell s.store.array (natOf o1 o0 + k))))

/-- PROGRAM_STORE in range holds the executor and begins its first byte; out of range it is refused. PROGRAM_BYTE_DONE at the end of a
millisecond lays one byte over the array, and after the last byte the reply OK or MISMATCH is queued and the executor is free (R155,
R156, R177). The store changes at that one offset alone. -/
def Obligations.ProgramStoreBurnsBytes : Prop :=
  (∀ (s : State) (tag o1 o0 n : Byte) (values : List Byte), s.Ready → s.loadRunning = false → values.length ≤ 57 →
    (values.length ≠ n.toNat → exec (.programStore tag (o1 :: o0 :: n :: values)) s = .next (s.refusedWith 0x69 tag .badLength)) ∧
    (values.length = n.toNat → n = 0 ∨ 32 < n.toNat ∨ 2047 < natOf o1 o0 ∨ 2048 < natOf o1 o0 + n.toNat →
      exec (.programStore tag (o1 :: o0 :: n :: values)) s = .next (s.refusedWith 0x69 tag .badField)) ∧
    (values.length = n.toNat → n ≠ 0 → n.toNat ≤ 32 → natOf o1 o0 + n.toNat ≤ 2048 →
      exec (.programStore tag (o1 :: o0 :: n :: values)) s = .next { s with
        store := { s.store with programming := some ⟨natOf o1 o0, values, 0, tag, s.osc, false⟩ },
        port := { s.port with executorBusy := true } })) ∧
  ∀ (s : State) (dt : Nat) (pr : Programming),
    let u := s.elapse dt
    let at_ := pr.offset + pr.done
    let array := programCell u.store.array at_ (pr.values.getD pr.done 0xFF)
    u.StoreOk → u.store.programming = some pr → 4096 * (pr.done + 1) ≤ 125 * (u.osc - pr.startedAt) →
    (∀ k, readCell array k =
      if k = at_ then readCell u.store.array k &&& pr.values.getD pr.done 0xFF else readCell u.store.array k) ∧
    (pr.abandoned = false → pr.done + 1 < pr.values.length →
      exec (.programByteDone dt) s =
        .next { u with store := { u.store with array := array, programming := some { pr with done := pr.done + 1 } } }) ∧
    (pr.abandoned = false → pr.done + 1 = pr.values.length → u.port.requests = [] →
      let wrong := (List.range pr.values.length).filter fun k =>
        readCell array (pr.offset + k) != pr.values.getD k 0xFF
      let head := twoBytes pr.offset ++ [byteOf pr.values.length]
      let reply : Reply := match wrong with
        | [] => ⟨pr.tag, 0x69, .ok, head⟩
        | k :: _ => ⟨pr.tag, 0x69, .mismatch, head ++ [byteOf wrong.length] ++ twoBytes (pr.offset + k)⟩
      exec (.programByteDone dt) s = .next { u with
        store := { u.store with array := array, programming := none },
        port := { u.port with executorBusy := false, replies := u.port.replies ++ [reply] } }) ∧
    (pr.abandoned = true → u.port.requests = [] →
      exec (.programByteDone dt) s = .next { u with
        store := { u.store with array := array, programming := none }, port := { u.port with executorBusy := false } })

/-- LOAD_DEFAULTS starts a load and replies ACCEPTED: a store that fails a test of its header ends STORE_BAD with the first reason and
changes no other block; a good one retires what has origin STORE and enters APPLY. LOAD_STEP applies or rejects one item and goes on to
the next, or ends DONE. LOAD_STATUS returns the load record (R159 to R162, R164, R165; the next item, log 13). The header is tested for
its MARKER, its FORMAT, its LENGTH, its CRC and its CHAIN, in that order (R159; a length byte of 0xFF, R192 and log 7). An item of an
unknown type is BAD_FIELD and one of a wrong length BAD_LENGTH; any other is taken as its command would take its parameters, an entry and
an exception with origin STORE (R25, R59, R101, R104, R121, R140, R152, R161). -/
def Obligations.LoadsRun : Prop :=
  (∀ (s : State) (tag : Byte) (p : List Byte), s.Ready → p.length ≤ 60 →
    (p ≠ [] → exec (.loadDefaults tag p) s = .next (s.refusedWith 0x6A tag .badLength)) ∧
    (s.loadRunning = false → ∀ r, headerTests s.store.array = some r →
      ∃ l : LoadRecord, l.state = .storeBad ∧ l.source = some .host ∧ l.badReason = some r ∧ l.phase = none ∧
        l.applied = 0 ∧ l.rejected = 0 ∧ l.firstRejection = none ∧
        exec (.loadDefaults tag []) s = .next (State.pushReply { s with
          store := { s.store with load := l }, supply := { s.supply with loadPending := false },
          port := { s.port with changes := addReasons .system 0 0x20 s.port.changes } } ⟨tag, 0x6A, .accepted, []⟩)) ∧
    (s.loadRunning = false → headerTests s.store.array = none → (readHeader s.store.array).items ≠ 0 →
      ∃ t : State, exec (.loadDefaults tag []) s = .next (t.pushReply ⟨tag, 0x6A, .accepted, []⟩) ∧
        t.store.load.state = .running ∧ t.store.load.source = some .host ∧ t.store.load.phase = some .apply ∧
        t.store.load.next = some ⟨0, 16⟩ ∧ t.store.load.applied = 0 ∧ t.store.load.rejected = 0 ∧
        t.store.array = s.store.array ∧ (∀ i e, (t.slot i).entry = some e → e.origin = .host) ∧
        (∀ i e, (s.slot i).entry = some e → e.origin = .host → t.slot i = s.slot i) ∧
        t.calendar.records = s.calendar.records.filter fun r => r.origin != .store) ∧
    (s.loadRunning = false → headerTests s.store.array = none → (readHeader s.store.array).items = 0 →
      ∃ t : State, exec (.loadDefaults tag []) s = .next (t.pushReply ⟨tag, 0x6A, .accepted, []⟩) ∧
        t.store.load.state = .done ∧ t.store.load.source = some .host ∧ t.store.load.phase = none ∧ t.store.load.next = none ∧
        t.store.load.applied = 0 ∧ t.store.load.rejected = 0 ∧ t.supply.loadPending = false ∧ t.Reports .system 0 5) ∧
    (p ≠ [] → exec (.loadStatus tag p) s = .next (s.refusedWith 0x6B tag .badLength)) ∧
    (let l := s.store.load;
      exec (.loadStatus tag []) s = .next (s.replied 0x6B tag
        ([l.state.code] ++ orAbsent 1 (fun x => [LoadSource.code x]) l.source ++
          orAbsent 1 (fun x => [LoadPhase.code x]) l.phase ++
          orAbsent 4 (fun x : NextItem => twoBytes x.index ++ twoBytes x.offset) l.next ++
          twoBytes l.applied ++ twoBytes l.rejected ++
          orAbsent 4 (fun x : Rejection => twoBytes x.index ++ [x.type, x.result.code]) l.firstRejection ++
          orAbsent 1 (fun x => [BadReason.code x]) l.badReason ++
          orAbsent 4 (fun x : StoreHeader => twoBytes x.items ++ twoBytes x.length) l.header ++
          [if s.supply.loadPending then 1 else 0])))) ∧
  (∀ array : List Host.Cell,
    let marker := readCell array 0 = 0x5A ∧ readCell array 1 = 0xC3
    let format := readCell array 2 = 1 ∧ ∀ k, 9 ≤ k → k ≤ 15 → readCell array k = 0xFF
    let h : StoreHeader := ⟨natOf (readCell array 3) (readCell array 4), natOf (readCell array 5) (readCell array 6)⟩
    let crc := (crc16 (readCells array 16 h.length)).toNat = natOf (readCell array 7) (readCell array 8)
    readHeader array = h ∧
    (¬ marker → headerTests array = some .marker) ∧
    (marker → ¬ format → headerTests array = some .format) ∧
    (marker → format → 2032 < h.length → headerTests array = some .length) ∧
    (marker → format → h.length ≤ 2032 → ¬ crc → headerTests array = some .crc) ∧
    (marker → format → h.length ≤ 2032 → crc → ¬ ItemChain array h → headerTests array = some .chain) ∧
    (marker → format → h.length ≤ 2032 → crc → ItemChain array h → headerTests array = none)) ∧
  (∀ (u : State) (type : Byte) (p : List Byte),
    (type = 0 ∨ 8 < type.toNat → applyItem type p u = .error .badField) ∧
    ((type = 1 ∧ p.length ≠ 9) ∨ (type = 2 ∧ bodyLengthOk p = false) ∨ (type = 3 ∧ p.length ≠ 7) ∨ (type = 4 ∧ p.length ≠ 5) ∨
        (type = 5 ∧ p.length ≠ 7) ∨ (type = 6 ∧ p.length ≠ 1) ∨ (type = 7 ∧ p.length ≠ 2) ∨ (type = 8 ∧ p.length ≠ 1) →
      applyItem type p u = .error .badLength)) ∧
  (∀ (u : State) (n k r a o l w d1 d0 : Byte),
    let item := applyItem 1 [n, k, r, a, o, l, w, d1, d0] u
    (readChannelNo n = none ∨ readConfig k r a o l w d1 d0 = none → item = .error .badField) ∧
    ∀ (c : Chan) (cfg : ChannelConfig), readChannelNo n = some c → readConfig k r a o l w d1 d0 = some cfg →
      ((u.chan c).switch.inFlight = true → item = .error .wrongState) ∧
      ((u.chan c).switch.inFlight = false → ∃ t : State, item = .ok t ∧ u.SameElsewhere t ∧ t.table = u.table ∧
        t.calendar = u.calendar ∧ t.freeCount = u.freeCount ∧ (∀ d, d ≠ c → t.chan d = u.chan d) ∧ (t.chan c).config = cfg ∧
        (t.chan c).claims = (u.chan c).claims ∧ (t.chan c).target =
          (if cfg.rest = (u.chan c).config.rest then (u.chan c).target else targetOf (u.chan c).claims cfg.rest))) ∧
  (∀ (u : State) (p : List Byte), bodyLengthOk p = true →
    (readBody p = none → applyItem 2 p u = .error .badField) ∧
    ∀ b, readBody p = some b →
      let e : Entry := ⟨.store, b, if u.judge b = .armed then .armed else .waiting, 0, 0, none⟩
      (u.judge b = .expired → applyItem 2 p u = .error .expiredAlready) ∧
      (u.judge b ≠ .expired → ∀ i, (u.slot i).entry = none → (∀ j, j < i → (u.slot j).entry ≠ none) →
        applyItem 2 p u = .ok (((u.setEntry i e).raiseEntry i .loaded).catchUp i)) ∧
      (u.judge b ≠ .expired → (∀ i, (u.slot i).entry ≠ none) →
        (∀ j rest, u.table.endedOrder = j :: rest →
          applyItem 2 p u =
            .ok (((((u.clearSlot j).raiseEntry j .reclaimed).setEntry j e).raiseEntry j .loaded).catchUp j)) ∧
        (u.table.endedOrder = [] → applyItem 2 p u = .error .tableFull))) ∧
  (∀ (u : State) (head f1 f2 f3 l1 l2 l3 : Byte),
    let item := applyItem 3 [head, f1, f2, f3, l1, l2, l3] u
    (readException head f1 f2 f3 l1 l2 l3 = none → item = .error .badField) ∧
    ∀ x, readException head f1 f2 f3 l1 l2 l3 = some x →
      let r : ExceptionRecord := ⟨x.1, x.2, .store⟩
      let past := u.time.validity = .valid ∧ r.keptOn u.today = false
      let clash := u.calendar.records.any fun y => y.span.conflicts r.span
      (past → item = .error .badField) ∧
      (¬ past → clash = true → item = .error .overlap) ∧
      (¬ past → clash = false → 48 ≤ u.calendar.records.length → item = .error .calendarFull) ∧
      (¬ past → clash = false → u.calendar.records.length < 48 →
        item = .ok (((u.setCalendar { u.calendar with
          records := insertException r u.calendar.records }).recomputeToday).raiseCalendar .changed))) ∧
  (∀ (u : State) (e1 e0 l1 l0 c : Byte),
    let enter := natOf e1 e0
    let leave := natOf l1 l0
    (1023 < enter ∨ 1023 < leave ∨ c = 0 ∨ leave ≤ enter → applyItem 4 [e1, e0, l1, l0, c] u = .error .badField) ∧
    (enter ≤ 1023 → leave ≤ 1023 → c ≠ 0 → enter < leave →
      applyItem 4 [e1, e0, l1, l0, c] u = .ok { u with light :=
        { u.light with darkEnter := enter, darkLeave := leave, confirmCount := c.toNat } })) ∧
  (∀ (u : State) (n hi lo e m1 m0 on : Byte),
    let item := applyItem 5 [n, hi, lo, e, m1, m0, on] u
    (readButtonNo n = none ∨ readEnding e m1 m0 = none ∨ readFlag on = none ∨ (on = 1 ∧ readSet hi lo = 0) →
      item = .error .badField) ∧
    ∀ b en flag, readButtonNo n = some b → readEnding e m1 m0 = some en → readFlag on = some flag →
      (flag = true → readSet hi lo ≠ 0) →
      ∃ press : PressState,
        item = .ok (u.setButton b { u.button b with
          channels := readSet hi lo, ending := en, enabled := flag, press := press }) ∧
        (flag = false → press = .released) ∧
        (flag = true → (u.button b).enabled = true → press = (u.button b).press) ∧
        (flag = true → (u.button b).enabled = false → u.supply.state ≠ .backup →
          press = if (u.button b).sampledLow then .longDone none else .released)) ∧
  (∀ (u : State) (x y : Byte),
    (x.toNat < 4 ∨ 63 < x.toNat → applyItem 6 [x] u = .error .badField) ∧
    (4 ≤ x.toNat → x.toNat ≤ 63 → applyItem 6 [x] u = .ok { u with line := { u.line with confirmCount := x.toNat } }) ∧
    (y = 0 ∨ 16 < y.toNat → applyItem 7 [x, y] u = .error .badField) ∧
    (y ≠ 0 → y.toNat ≤ 16 → applyItem 7 [x, y] u = .ok { u with
      supply := { u.supply with restoreDelay := x.toNat }, engine := { u.engine with stagger := y.toNat } }) ∧
    (1 < x.toNat → applyItem 8 [x] u = .error .badField) ∧
    applyItem 8 [0] u = .ok (u.setTimeBase { u.time with preference := .auto }).judgeSource ∧
    applyItem 8 [1] u = .ok (u.setTimeBase { u.time with preference := .crystal }).judgeSource) ∧
  ∀ (s : State) (dt : Nat) (n : NextItem) (h : StoreHeader),
    let u := s.elapse dt
    let l := u.store.load
    let type := readCell u.store.array n.offset
    let length := (readCell u.store.array (n.offset + 1)).toNat
    let outcome := applyItem type (readCells u.store.array (n.offset + 2) length) u
    let next : Option NextItem := some ⟨n.index + 1, n.offset + 2 + length⟩
    l.state = .running → l.phase = some .apply → l.next = some n → l.header = some h →
    2048 * (n.index + 1) ≤ 125 * (u.osc - l.startedAt) →
    (∀ v, outcome = .ok v → n.index + 1 < h.items →
      exec (.loadStep dt) s = .next (v.setLoad { l with next := next, applied := l.applied + 1 })) ∧
    (∀ r, outcome = .error r → n.index + 1 < h.items →
      exec (.loadStep dt) s = .next (u.setLoad { l with
        next := next, rejected := l.rejected + 1,
        firstRejection := if l.firstRejection = none then some ⟨n.index, type, r⟩ else l.firstRejection })) ∧
    (∀ v, outcome = .ok v → h.items ≤ n.index + 1 →
      exec (.loadStep dt) s = .next (((v.setLoad { l with
        next := none, phase := none, state := .done, applied := l.applied + 1 }).setSupply
          { v.supply with loadPending := false }).raiseSystem .loadDone)) ∧
    (∀ r, outcome = .error r → h.items ≤ n.index + 1 →
      exec (.loadStep dt) s = .next (((u.setLoad { l with
        next := none, phase := none, state := .done, rejected := l.rejected + 1,
        firstRejection := if l.firstRejection = none then some ⟨n.index, type, r⟩ else l.firstRejection }).setSupply
          { u.supply with loadPending := false }).raiseSystem .loadDone))

/-! ## The Host Port -/

/-- IDENTIFY replies with the part's constants in every state in which the port answers, and changes nothing; any parameter is BAD_LENGTH
(R187). -/
def Obligations.IdentifyReplies : Prop :=
  ∀ (s : State) (tag : Byte) (p : List Byte), s.Ready → p.length ≤ 60 →
    (p ≠ [] → exec (.identify tag p) s = .next (s.pushReply ⟨tag, 0x72, .badLength, []⟩)) ∧
    exec (.identify tag []) s = .next (s.pushReply ⟨tag, 0x72, .ok, [0x2E, 0x16, 1, 128, 192, 48]⟩)

/-- SET_NOTICE_MASK stores a mask of the four kinds, judges ATTN at once, replies with the mask and the number of items of each kind, and
changes no item (R185). -/
def Obligations.SetNoticeMaskStores : Prop :=
  ∀ (s : State) (tag m : Byte) (p : List Byte), s.Ready → p.length ≤ 60 →
    (p.length ≠ 1 → exec (.setNoticeMask tag p) s = .next (s.refusedWith 0x71 tag .badLength)) ∧
    (16 ≤ m.toNat → exec (.setNoticeMask tag [m]) s = .next (s.refusedWith 0x71 tag .badField)) ∧
    (m.toNat < 16 →
      let count (k : ChangeKind) : Byte := byteOf (s.port.changes.countP fun i => i.kind == k)
      ∃ t : State, t = State.replied { s with port := { s.port with mask := m.setWidth 4 } } 0x71 tag
          [m, count .entry, count .channel, count .calendar, count .system] ∧
        exec (.setNoticeMask tag [m]) s = .next t ∧
        (t.attn = true ↔ ∃ i ∈ s.port.changes, m.getLsbD i.kind.code = true))

/-- READ_CHANGES returns and removes up to n items from the head of the read order, with the number left; n outside 1..16 is BAD_FIELD
(R183). -/
def Obligations.ReadChangesDrains : Prop :=
  ∀ (s : State) (tag n : Byte) (p : List Byte), s.Ready → p.length ≤ 60 →
    (p.length ≠ 1 → exec (.readChanges tag p) s = .next (s.refusedWith 0x70 tag .badLength)) ∧
    (n = 0 ∨ 16 < n.toNat → exec (.readChanges tag [n]) s = .next (s.refusedWith 0x70 tag .badField)) ∧
    (n ≠ 0 → n.toNat ≤ 16 →
      let shown := s.port.changes.take n.toNat
      let left := s.port.changes.drop n.toNat
      exec (.readChanges tag [n]) s =
        .next (State.replied { s with port := { s.port with changes := left } } 0x70 tag
          ([byteOf shown.length, byteOf left.length] ++
            shown.flatMap fun i => [byteOf i.kind.code, byteOf i.index] ++ twoBytes i.reasons.toNat)))

/-- The steps of a transaction: TRANSACTION_START composes the status byte, STATUS_BYTE_SHIFTED clears a discard flag that it carried,
REPLY_LATCH latches the head reply or NONE, and REPLY_READ_END removes a reply that was shifted out in full. PORT_RESET empties the
queues, ends a transaction, clears the discard flag and abandons a PROGRAM_STORE to its byte in flight, and touches nothing else;
PORT_RESET_RELEASE makes the port active again with empty queues (R157, R168, R169, R171, R173, R178). -/
def Obligations.PortEvents : Prop :=
  (∀ (s : State) (dt k : Nat) (tr : Transaction) (r : Reply) (rest : List Reply),
    let u := s.elapse dt
    (u.port.csnLow = false → u.portActive = true →
      exec (.transactionStart dt) s = .next { u with port := { u.port with
        csnLow := true,
        transaction := some ⟨⟨u.port.replies.length, 4 - u.port.requests.length, u.attn, u.port.discard⟩, none⟩ } }) ∧
    (u.port.transaction = some tr → tr.status.discard = true →
      exec (.statusByteShifted dt) s = .next { u with port := { u.port with discard := false } }) ∧
    (u.port.transaction = some tr → tr.status.discard = false → exec (.statusByteShifted dt) s = .next u) ∧
    (u.port.transaction = some tr → tr.latched = none → u.port.replies = r :: rest →
      exec (.replyLatch dt) s =
        .next { u with port := { u.port with transaction := some { tr with latched := some (.head r) } } }) ∧
    (u.port.transaction = some tr → tr.latched = none → u.port.replies = [] →
      exec (.replyLatch dt) s =
        .next { u with port := { u.port with transaction := some { tr with latched := some .noReply } } }) ∧
    (u.port.transaction = some tr → tr.latched = some (.head r) → u.port.replies = r :: rest → u.port.requests = [] →
      (r.payload.length + 5 ≤ k →
        exec (.replyReadEnd dt k) s =
          .next { u with port := { u.port with csnLow := false, transaction := none, replies := rest } }) ∧
      (k < r.payload.length + 5 →
        exec (.replyReadEnd dt k) s = .next { u with port := { u.port with csnLow := false, transaction := none } }))) ∧
  (∀ (s : State) (dt : Nat),
    let u := s.elapse dt
    (u.port.prstnLow = false →
      exec (.portReset dt) s = .next { u with
        port := { u.port with prstnLow := true, requests := [], replies := [], discard := false, transaction := none },
        store := { u.store with programming := u.store.programming.map fun pr => { pr with abandoned := true } } }) ∧
    (u.port.prstnLow = true → u.port.requests = [] →
      exec (.portResetRelease dt) s = .next { u with port := { u.port with prstnLow := false } }))
end

