-- ==== Sys2Proof/Laws/Claims.lean ====
section
/-! SUPPORT. What putting a claim into its list does, the level of a coil in each switch state, and a release that is not due. -/

namespace Sys2Proof.Machine

/-! ## Putting a claim into a list (R61) -/

theorem mem_insertClaim (c x : Claim) (l : List Claim) : x ∈ insertClaim c l ↔ x = c ∨ x ∈ l := by
  induction l with
  | nil => simp [insertClaim]
  | cons y ys ih =>
    unfold insertClaim
    split
    · simp
    · simp [ih, or_left_comm]

/-- A count over the list grows by the claim put in. -/
theorem countP_insertClaim (p : Claim → Bool) (c : Claim) (l : List Claim) :
    (insertClaim c l).countP p = l.countP p + if p c then 1 else 0 := by
  induction l with
  | nil => simp [insertClaim, List.countP_cons]
  | cons y ys ih =>
    unfold insertClaim
    split
    · simp [List.countP_cons]
    · simp only [List.countP_cons, ih]; omega

/-- The order of R61 as a relation between the keys of two claims. -/
theorem Claim.before_iff (a b : Claim) : a.before b = true ↔
    b.priority < a.priority ∨
      a.priority = b.priority ∧ (b.start.key < a.start.key ∨ a.start.key = b.start.key ∧ a.slotKey < b.slotKey) := by
  simp [Claim.before]

theorem Claim.before_trans {a b c : Claim} (h : a.before b = true) (k : b.before c = true) : a.before c = true := by
  rw [Claim.before_iff] at *; omega

theorem Claim.not_before_of_before {a b : Claim} (h : a.before b = true) : b.before a = false := by
  rw [Claim.before_iff] at h
  rw [← Bool.not_eq_true, Claim.before_iff]; omega

/-- A list in its order keeps it when a claim is put in (R61). -/
theorem insertClaim_ordered (c : Claim) {l : List Claim} (h : l.Pairwise fun x y => y.before x = false) :
    (insertClaim c l).Pairwise fun x y => y.before x = false := by
  induction l with
  | nil => simp [insertClaim]
  | cons y ys ih =>
    obtain ⟨hy, hys⟩ := List.pairwise_cons.mp h
    unfold insertClaim
    split
    · rename_i hc
      refine List.pairwise_cons.mpr ⟨fun z hz => ?_, h⟩
      obtain rfl | hz := List.mem_cons.mp hz
      · exact Claim.not_before_of_before hc
      · by_contra hzc
        exact absurd (Claim.before_trans (by simpa using hzc) hc) (by simp [hy z hz])
    · rename_i hc
      refine List.pairwise_cons.mpr ⟨fun z hz => ?_, ih hys⟩
      obtain rfl | hz := (mem_insertClaim c z ys).mp hz
      · simpa using hc
      · exact hy z hz

/-! ## The coil (R82) -/

theorem Channel.coilLevel_idle {ch : Channel} (h : ch.switch = .idle) : ch.coilLevel = (ch.driven == .on) := by
  simp [Channel.coilLevel, h]

theorem Channel.coilLevel_queued {ch : Channel} (h : ch.switch = .queued) : ch.coilLevel = (ch.driven == .on) := by
  simp [Channel.coilLevel, h]

theorem Channel.coilLevel_issued {ch : Channel} {op : Operation} (h : ch.switch = .issued op) :
    ch.coilLevel = if op.acted then op.intended else ch.driven == .on := by
  simp [Channel.coilLevel, h]

/-! ## Releases (R106) -/

theorem releaseConfirm_of_not_due {s : State} {b : ButtonNo} (h : s.releaseDue b = false) : s.releaseConfirm b = s := by
  simp [State.releaseConfirm, h]

end Sys2Proof.Machine
end

