-- ==== Sys2Proof/Laws/Memory.lean ====
section
/-! SUPPORT. The store's array: every operation keeps its canonical form, a read after a write gives the byte written, and every other
offset reads as before. -/

namespace Sys2Proof.Machine

theorem arrayForm_cons (a : Nat) (x : Byte) (rest : List Host.Cell) :
    arrayForm ((a, x) :: rest) = true ↔
      a < Config.storeBytes ∧ x ≠ Config.erasedByte ∧ (∀ p ∈ rest, a < p.1) ∧ arrayForm rest = true := by
  simp [arrayForm, and_assoc]

/-- An offset below every listed one reads as erased. -/
theorem readCell_below (l : List Host.Cell) (o : Nat) (h : ∀ p ∈ l, o < p.1) : readCell l o = Config.erasedByte := by
  induction l with
  | nil => rfl
  | cons p rest ih =>
    obtain ⟨a, x⟩ := p
    have ha : o < a := h (a, x) (by simp)
    simp only [readCell, if_neg (Nat.ne_of_gt ha)]
    exact ih fun p hp => h p (by simp [hp])

/-- Every offset that a write lists is the one written or was listed before. -/
theorem mem_writeCell {o : Nat} {b : Byte} {l : List Host.Cell} {p : Host.Cell} (h : p ∈ writeCell o b l) :
    p = (o, b) ∨ p ∈ l := by
  induction l with
  | nil => simp only [writeCell] at h; split at h <;> simp_all
  | cons q rest ih =>
    obtain ⟨a, x⟩ := q
    simp only [writeCell] at h
    split at h
    · rcases List.mem_cons.1 h with rfl | h
      · simp
      · rcases ih h with h | h <;> simp [h]
    · split at h
      · split at h
        · exact .inr (List.mem_cons_of_mem _ h)
        · rcases List.mem_cons.1 h with h | h <;> simp [h]
      · split at h
        · exact .inr h
        · rcases List.mem_cons.1 h with h | h
          · exact .inl h
          · exact .inr h

/-- A write keeps the canonical form. -/
theorem arrayForm_writeCell {o : Nat} {b : Byte} {l : List Host.Cell} (ho : o < Config.storeBytes)
    (h : arrayForm l = true) : arrayForm (writeCell o b l) = true := by
  induction l with
  | nil => simp only [writeCell]; split <;> simp_all [arrayForm]
  | cons q rest ih =>
    obtain ⟨a, x⟩ := q
    obtain ⟨h1, h2, h3, h4⟩ := (arrayForm_cons a x rest).1 h
    simp only [writeCell]
    split
    · rename_i hlt
      refine (arrayForm_cons ..).2 ⟨h1, h2, fun p hp => ?_, ih h4⟩
      rcases mem_writeCell hp with rfl | hp
      · exact hlt
      · exact h3 p hp
    · split
      · rename_i _ heq
        split
        · exact h4
        · rename_i hb
          exact (arrayForm_cons ..).2 ⟨ho, hb, fun p hp => heq ▸ h3 p hp, h4⟩
      · split
        · exact h
        · rename_i hb
          refine (arrayForm_cons ..).2 ⟨ho, hb, fun p hp => ?_, h⟩
          rcases List.mem_cons.1 hp with rfl | hp
          · simp only; omega
          · have := h3 p hp; omega

/-- A read after a write: the byte written at its offset, and elsewhere what was there before. -/
theorem readCell_writeCell {o : Nat} {b : Byte} {l : List Host.Cell} (h : arrayForm l = true) (k : Nat) :
    readCell (writeCell o b l) k = if o = k then b else readCell l k := by
  induction l with
  | nil =>
    simp only [writeCell]
    split
    · rename_i hb; subst hb; split <;> simp [readCell]
    · simp [readCell]
  | cons q rest ih =>
    obtain ⟨a, x⟩ := q
    obtain ⟨-, -, h3, h4⟩ := (arrayForm_cons a x rest).1 h
    simp only [writeCell]
    split
    · rename_i hlt
      simp only [readCell]
      split
      · rename_i hak; rw [if_neg (by omega)]
      · exact ih h4
    · split
      · rename_i _ heq
        subst heq
        split
        · rename_i hb
          subst hb
          split
          · rename_i hk; subst hk; exact readCell_below rest a h3
          · rename_i hk; simp [readCell, hk]
        · by_cases hk : a = k <;> simp [readCell, hk]
      · rename_i hn1 hn2
        have hlt : o < a := by omega
        split
        · rename_i hb
          subst hb
          split
          · rename_i hk
            subst hk
            exact readCell_below _ o fun p hp => by
              rcases List.mem_cons.1 hp with rfl | hp
              · exact hlt
              · exact Nat.lt_trans hlt (h3 p hp)
          · rfl
        · by_cases hk : o = k <;> simp [readCell, hk]

/-- Programming a byte keeps the canonical form. -/
theorem arrayForm_programCell {o : Nat} {b : Byte} {l : List Host.Cell} (ho : o < Config.storeBytes)
    (h : arrayForm l = true) : arrayForm (programCell l o b) = true := arrayForm_writeCell ho h

/-- Programming a byte lays the new value over the old one, and leaves every other offset alone (R155). -/
theorem readCell_programCell {o : Nat} {b : Byte} {l : List Host.Cell} (h : arrayForm l = true) (k : Nat) :
    readCell (programCell l o b) k = if o = k then readCell l o &&& b else readCell l k := readCell_writeCell h k

/-- Two arrays in canonical form that read alike at every offset are equal. -/
theorem array_ext {l m : List Host.Cell} (hl : arrayForm l = true) (hm : arrayForm m = true)
    (h : ∀ k, readCell l k = readCell m k) : l = m := by
  induction l generalizing m with
  | nil =>
    cases m with
    | nil => rfl
    | cons q rest =>
      obtain ⟨a, x⟩ := q
      have := (arrayForm_cons a x rest).1 hm
      have hk := h a
      simp [readCell] at hk
      exact absurd hk.symm this.2.1
  | cons p rest ih =>
    obtain ⟨a, x⟩ := p
    obtain ⟨-, p2, p3, p4⟩ := (arrayForm_cons a x rest).1 hl
    cases m with
    | nil =>
      have hk := h a
      simp [readCell] at hk
      exact absurd hk p2
    | cons q more =>
      obtain ⟨c, y⟩ := q
      obtain ⟨-, q2, q3, q4⟩ := (arrayForm_cons c y more).1 hm
      have hac : a = c := by
        rcases Nat.lt_trichotomy a c with hlt | heq | hgt
        · have hk := h a
          rw [readCell_below ((c, y) :: more) a (by
            intro p hp
            rcases List.mem_cons.1 hp with rfl | hp
            · exact hlt
            · exact Nat.lt_trans hlt (q3 p hp))] at hk
          simp [readCell] at hk
          exact absurd hk p2
        · exact heq
        · have hk := h c
          rw [readCell_below ((a, x) :: rest) c (by
            intro p hp
            rcases List.mem_cons.1 hp with rfl | hp
            · exact hgt
            · exact Nat.lt_trans hgt (p3 p hp))] at hk
          simp [readCell] at hk
          exact absurd hk.symm q2
      subst hac
      have hxy : x = y := by simpa [readCell] using h a
      subst hxy
      congr 1
      refine ih p4 q4 fun k => ?_
      by_cases hk : a = k
      · subst hk; rw [readCell_below rest a p3, readCell_below more a q3]
      · simpa [readCell, hk] using h k

end Sys2Proof.Machine
end

