-- ==== Sys2Proof/Laws/State.lean ====
section
/-! SUPPORT. One lemma for each field of the state under each replacement of a block, so that no proof unfolds a record update. -/

namespace Sys2Proof.Machine

variable (s : State)

@[simp] theorem State.setTable_pending (x : ScheduleTable) : (s.setTable x).pending = s.pending := rfl
@[simp] theorem State.setTable_table (x : ScheduleTable) : (s.setTable x).table = x := rfl
@[simp] theorem State.setTable_calendar (x : ScheduleTable) : (s.setTable x).calendar = s.calendar := rfl
@[simp] theorem State.setTable_channels (x : ScheduleTable) : (s.setTable x).channels = s.channels := rfl
@[simp] theorem State.setTable_freeCount (x : ScheduleTable) : (s.setTable x).freeCount = s.freeCount := rfl
@[simp] theorem State.setTable_engine (x : ScheduleTable) : (s.setTable x).engine = s.engine := rfl
@[simp] theorem State.setTable_buttons (x : ScheduleTable) : (s.setTable x).buttons = s.buttons := rfl
@[simp] theorem State.setTable_light (x : ScheduleTable) : (s.setTable x).light = s.light := rfl
@[simp] theorem State.setTable_time (x : ScheduleTable) : (s.setTable x).time = s.time := rfl
@[simp] theorem State.setTable_line (x : ScheduleTable) : (s.setTable x).line = s.line := rfl
@[simp] theorem State.setTable_supply (x : ScheduleTable) : (s.setTable x).supply = s.supply := rfl
@[simp] theorem State.setTable_store (x : ScheduleTable) : (s.setTable x).store = s.store := rfl
@[simp] theorem State.setTable_port (x : ScheduleTable) : (s.setTable x).port = s.port := rfl
@[simp] theorem State.setTable_cycles (x : ScheduleTable) : (s.setTable x).cycles = s.cycles := rfl
@[simp] theorem State.setTable_osc (x : ScheduleTable) : (s.setTable x).osc = s.osc := rfl
@[simp] theorem State.setTable_freeIndex (x : ScheduleTable) : (s.setTable x).freeIndex = s.freeIndex := rfl

@[simp] theorem State.setCalendar_pending (x : ExceptionCalendar) : (s.setCalendar x).pending = s.pending := rfl
@[simp] theorem State.setCalendar_table (x : ExceptionCalendar) : (s.setCalendar x).table = s.table := rfl
@[simp] theorem State.setCalendar_calendar (x : ExceptionCalendar) : (s.setCalendar x).calendar = x := rfl
@[simp] theorem State.setCalendar_channels (x : ExceptionCalendar) : (s.setCalendar x).channels = s.channels := rfl
@[simp] theorem State.setCalendar_freeCount (x : ExceptionCalendar) : (s.setCalendar x).freeCount = s.freeCount := rfl
@[simp] theorem State.setCalendar_engine (x : ExceptionCalendar) : (s.setCalendar x).engine = s.engine := rfl
@[simp] theorem State.setCalendar_buttons (x : ExceptionCalendar) : (s.setCalendar x).buttons = s.buttons := rfl
@[simp] theorem State.setCalendar_light (x : ExceptionCalendar) : (s.setCalendar x).light = s.light := rfl
@[simp] theorem State.setCalendar_time (x : ExceptionCalendar) : (s.setCalendar x).time = s.time := rfl
@[simp] theorem State.setCalendar_line (x : ExceptionCalendar) : (s.setCalendar x).line = s.line := rfl
@[simp] theorem State.setCalendar_supply (x : ExceptionCalendar) : (s.setCalendar x).supply = s.supply := rfl
@[simp] theorem State.setCalendar_store (x : ExceptionCalendar) : (s.setCalendar x).store = s.store := rfl
@[simp] theorem State.setCalendar_port (x : ExceptionCalendar) : (s.setCalendar x).port = s.port := rfl
@[simp] theorem State.setCalendar_cycles (x : ExceptionCalendar) : (s.setCalendar x).cycles = s.cycles := rfl
@[simp] theorem State.setCalendar_osc (x : ExceptionCalendar) : (s.setCalendar x).osc = s.osc := rfl
@[simp] theorem State.setCalendar_freeIndex (x : ExceptionCalendar) : (s.setCalendar x).freeIndex = s.freeIndex := rfl

@[simp] theorem State.setChannels_pending (x : Vector Channel 16) : (s.setChannels x).pending = s.pending := rfl
@[simp] theorem State.setChannels_table (x : Vector Channel 16) : (s.setChannels x).table = s.table := rfl
@[simp] theorem State.setChannels_calendar (x : Vector Channel 16) : (s.setChannels x).calendar = s.calendar := rfl
@[simp] theorem State.setChannels_channels (x : Vector Channel 16) : (s.setChannels x).channels = x := rfl
@[simp] theorem State.setChannels_freeCount (x : Vector Channel 16) : (s.setChannels x).freeCount = s.freeCount := rfl
@[simp] theorem State.setChannels_engine (x : Vector Channel 16) : (s.setChannels x).engine = s.engine := rfl
@[simp] theorem State.setChannels_buttons (x : Vector Channel 16) : (s.setChannels x).buttons = s.buttons := rfl
@[simp] theorem State.setChannels_light (x : Vector Channel 16) : (s.setChannels x).light = s.light := rfl
@[simp] theorem State.setChannels_time (x : Vector Channel 16) : (s.setChannels x).time = s.time := rfl
@[simp] theorem State.setChannels_line (x : Vector Channel 16) : (s.setChannels x).line = s.line := rfl
@[simp] theorem State.setChannels_supply (x : Vector Channel 16) : (s.setChannels x).supply = s.supply := rfl
@[simp] theorem State.setChannels_store (x : Vector Channel 16) : (s.setChannels x).store = s.store := rfl
@[simp] theorem State.setChannels_port (x : Vector Channel 16) : (s.setChannels x).port = s.port := rfl
@[simp] theorem State.setChannels_cycles (x : Vector Channel 16) : (s.setChannels x).cycles = s.cycles := rfl
@[simp] theorem State.setChannels_osc (x : Vector Channel 16) : (s.setChannels x).osc = s.osc := rfl
@[simp] theorem State.setChannels_freeIndex (x : Vector Channel 16) : (s.setChannels x).freeIndex = s.freeIndex := rfl

@[simp] theorem State.setFreeCount_pending (x : Nat) : (s.setFreeCount x).pending = s.pending := rfl
@[simp] theorem State.setFreeCount_table (x : Nat) : (s.setFreeCount x).table = s.table := rfl
@[simp] theorem State.setFreeCount_calendar (x : Nat) : (s.setFreeCount x).calendar = s.calendar := rfl
@[simp] theorem State.setFreeCount_channels (x : Nat) : (s.setFreeCount x).channels = s.channels := rfl
@[simp] theorem State.setFreeCount_freeCount (x : Nat) : (s.setFreeCount x).freeCount = x := rfl
@[simp] theorem State.setFreeCount_engine (x : Nat) : (s.setFreeCount x).engine = s.engine := rfl
@[simp] theorem State.setFreeCount_buttons (x : Nat) : (s.setFreeCount x).buttons = s.buttons := rfl
@[simp] theorem State.setFreeCount_light (x : Nat) : (s.setFreeCount x).light = s.light := rfl
@[simp] theorem State.setFreeCount_time (x : Nat) : (s.setFreeCount x).time = s.time := rfl
@[simp] theorem State.setFreeCount_line (x : Nat) : (s.setFreeCount x).line = s.line := rfl
@[simp] theorem State.setFreeCount_supply (x : Nat) : (s.setFreeCount x).supply = s.supply := rfl
@[simp] theorem State.setFreeCount_store (x : Nat) : (s.setFreeCount x).store = s.store := rfl
@[simp] theorem State.setFreeCount_port (x : Nat) : (s.setFreeCount x).port = s.port := rfl
@[simp] theorem State.setFreeCount_cycles (x : Nat) : (s.setFreeCount x).cycles = s.cycles := rfl
@[simp] theorem State.setFreeCount_osc (x : Nat) : (s.setFreeCount x).osc = s.osc := rfl
@[simp] theorem State.setFreeCount_freeIndex (x : Nat) : (s.setFreeCount x).freeIndex = s.freeIndex := rfl

@[simp] theorem State.setEngine_pending (x : SwitchingEngine) : (s.setEngine x).pending = s.pending := rfl
@[simp] theorem State.setEngine_table (x : SwitchingEngine) : (s.setEngine x).table = s.table := rfl
@[simp] theorem State.setEngine_calendar (x : SwitchingEngine) : (s.setEngine x).calendar = s.calendar := rfl
@[simp] theorem State.setEngine_channels (x : SwitchingEngine) : (s.setEngine x).channels = s.channels := rfl
@[simp] theorem State.setEngine_freeCount (x : SwitchingEngine) : (s.setEngine x).freeCount = s.freeCount := rfl
@[simp] theorem State.setEngine_engine (x : SwitchingEngine) : (s.setEngine x).engine = x := rfl
@[simp] theorem State.setEngine_buttons (x : SwitchingEngine) : (s.setEngine x).buttons = s.buttons := rfl
@[simp] theorem State.setEngine_light (x : SwitchingEngine) : (s.setEngine x).light = s.light := rfl
@[simp] theorem State.setEngine_time (x : SwitchingEngine) : (s.setEngine x).time = s.time := rfl
@[simp] theorem State.setEngine_line (x : SwitchingEngine) : (s.setEngine x).line = s.line := rfl
@[simp] theorem State.setEngine_supply (x : SwitchingEngine) : (s.setEngine x).supply = s.supply := rfl
@[simp] theorem State.setEngine_store (x : SwitchingEngine) : (s.setEngine x).store = s.store := rfl
@[simp] theorem State.setEngine_port (x : SwitchingEngine) : (s.setEngine x).port = s.port := rfl
@[simp] theorem State.setEngine_cycles (x : SwitchingEngine) : (s.setEngine x).cycles = s.cycles := rfl
@[simp] theorem State.setEngine_osc (x : SwitchingEngine) : (s.setEngine x).osc = s.osc := rfl
@[simp] theorem State.setEngine_freeIndex (x : SwitchingEngine) : (s.setEngine x).freeIndex = s.freeIndex := rfl

@[simp] theorem State.setButtons_pending (x : Vector Button 4) : (s.setButtons x).pending = s.pending := rfl
@[simp] theorem State.setButtons_table (x : Vector Button 4) : (s.setButtons x).table = s.table := rfl
@[simp] theorem State.setButtons_calendar (x : Vector Button 4) : (s.setButtons x).calendar = s.calendar := rfl
@[simp] theorem State.setButtons_channels (x : Vector Button 4) : (s.setButtons x).channels = s.channels := rfl
@[simp] theorem State.setButtons_freeCount (x : Vector Button 4) : (s.setButtons x).freeCount = s.freeCount := rfl
@[simp] theorem State.setButtons_engine (x : Vector Button 4) : (s.setButtons x).engine = s.engine := rfl
@[simp] theorem State.setButtons_buttons (x : Vector Button 4) : (s.setButtons x).buttons = x := rfl
@[simp] theorem State.setButtons_light (x : Vector Button 4) : (s.setButtons x).light = s.light := rfl
@[simp] theorem State.setButtons_time (x : Vector Button 4) : (s.setButtons x).time = s.time := rfl
@[simp] theorem State.setButtons_line (x : Vector Button 4) : (s.setButtons x).line = s.line := rfl
@[simp] theorem State.setButtons_supply (x : Vector Button 4) : (s.setButtons x).supply = s.supply := rfl
@[simp] theorem State.setButtons_store (x : Vector Button 4) : (s.setButtons x).store = s.store := rfl
@[simp] theorem State.setButtons_port (x : Vector Button 4) : (s.setButtons x).port = s.port := rfl
@[simp] theorem State.setButtons_cycles (x : Vector Button 4) : (s.setButtons x).cycles = s.cycles := rfl
@[simp] theorem State.setButtons_osc (x : Vector Button 4) : (s.setButtons x).osc = s.osc := rfl
@[simp] theorem State.setButtons_freeIndex (x : Vector Button 4) : (s.setButtons x).freeIndex = s.freeIndex := rfl

@[simp] theorem State.setLight_pending (x : LightMonitor) : (s.setLight x).pending = s.pending := rfl
@[simp] theorem State.setLight_table (x : LightMonitor) : (s.setLight x).table = s.table := rfl
@[simp] theorem State.setLight_calendar (x : LightMonitor) : (s.setLight x).calendar = s.calendar := rfl
@[simp] theorem State.setLight_channels (x : LightMonitor) : (s.setLight x).channels = s.channels := rfl
@[simp] theorem State.setLight_freeCount (x : LightMonitor) : (s.setLight x).freeCount = s.freeCount := rfl
@[simp] theorem State.setLight_engine (x : LightMonitor) : (s.setLight x).engine = s.engine := rfl
@[simp] theorem State.setLight_buttons (x : LightMonitor) : (s.setLight x).buttons = s.buttons := rfl
@[simp] theorem State.setLight_light (x : LightMonitor) : (s.setLight x).light = x := rfl
@[simp] theorem State.setLight_time (x : LightMonitor) : (s.setLight x).time = s.time := rfl
@[simp] theorem State.setLight_line (x : LightMonitor) : (s.setLight x).line = s.line := rfl
@[simp] theorem State.setLight_supply (x : LightMonitor) : (s.setLight x).supply = s.supply := rfl
@[simp] theorem State.setLight_store (x : LightMonitor) : (s.setLight x).store = s.store := rfl
@[simp] theorem State.setLight_port (x : LightMonitor) : (s.setLight x).port = s.port := rfl
@[simp] theorem State.setLight_cycles (x : LightMonitor) : (s.setLight x).cycles = s.cycles := rfl
@[simp] theorem State.setLight_osc (x : LightMonitor) : (s.setLight x).osc = s.osc := rfl
@[simp] theorem State.setLight_freeIndex (x : LightMonitor) : (s.setLight x).freeIndex = s.freeIndex := rfl

@[simp] theorem State.setTimeBase_pending (x : TimeBase) : (s.setTimeBase x).pending = s.pending := rfl
@[simp] theorem State.setTimeBase_table (x : TimeBase) : (s.setTimeBase x).table = s.table := rfl
@[simp] theorem State.setTimeBase_calendar (x : TimeBase) : (s.setTimeBase x).calendar = s.calendar := rfl
@[simp] theorem State.setTimeBase_channels (x : TimeBase) : (s.setTimeBase x).channels = s.channels := rfl
@[simp] theorem State.setTimeBase_freeCount (x : TimeBase) : (s.setTimeBase x).freeCount = s.freeCount := rfl
@[simp] theorem State.setTimeBase_engine (x : TimeBase) : (s.setTimeBase x).engine = s.engine := rfl
@[simp] theorem State.setTimeBase_buttons (x : TimeBase) : (s.setTimeBase x).buttons = s.buttons := rfl
@[simp] theorem State.setTimeBase_light (x : TimeBase) : (s.setTimeBase x).light = s.light := rfl
@[simp] theorem State.setTimeBase_time (x : TimeBase) : (s.setTimeBase x).time = x := rfl
@[simp] theorem State.setTimeBase_line (x : TimeBase) : (s.setTimeBase x).line = s.line := rfl
@[simp] theorem State.setTimeBase_supply (x : TimeBase) : (s.setTimeBase x).supply = s.supply := rfl
@[simp] theorem State.setTimeBase_store (x : TimeBase) : (s.setTimeBase x).store = s.store := rfl
@[simp] theorem State.setTimeBase_port (x : TimeBase) : (s.setTimeBase x).port = s.port := rfl
@[simp] theorem State.setTimeBase_cycles (x : TimeBase) : (s.setTimeBase x).cycles = s.cycles := rfl
@[simp] theorem State.setTimeBase_osc (x : TimeBase) : (s.setTimeBase x).osc = s.osc := rfl
@[simp] theorem State.setTimeBase_freeIndex (x : TimeBase) : (s.setTimeBase x).freeIndex = s.freeIndex := rfl

@[simp] theorem State.setLine_pending (x : LineMonitor) : (s.setLine x).pending = s.pending := rfl
@[simp] theorem State.setLine_table (x : LineMonitor) : (s.setLine x).table = s.table := rfl
@[simp] theorem State.setLine_calendar (x : LineMonitor) : (s.setLine x).calendar = s.calendar := rfl
@[simp] theorem State.setLine_channels (x : LineMonitor) : (s.setLine x).channels = s.channels := rfl
@[simp] theorem State.setLine_freeCount (x : LineMonitor) : (s.setLine x).freeCount = s.freeCount := rfl
@[simp] theorem State.setLine_engine (x : LineMonitor) : (s.setLine x).engine = s.engine := rfl
@[simp] theorem State.setLine_buttons (x : LineMonitor) : (s.setLine x).buttons = s.buttons := rfl
@[simp] theorem State.setLine_light (x : LineMonitor) : (s.setLine x).light = s.light := rfl
@[simp] theorem State.setLine_time (x : LineMonitor) : (s.setLine x).time = s.time := rfl
@[simp] theorem State.setLine_line (x : LineMonitor) : (s.setLine x).line = x := rfl
@[simp] theorem State.setLine_supply (x : LineMonitor) : (s.setLine x).supply = s.supply := rfl
@[simp] theorem State.setLine_store (x : LineMonitor) : (s.setLine x).store = s.store := rfl
@[simp] theorem State.setLine_port (x : LineMonitor) : (s.setLine x).port = s.port := rfl
@[simp] theorem State.setLine_cycles (x : LineMonitor) : (s.setLine x).cycles = s.cycles := rfl
@[simp] theorem State.setLine_osc (x : LineMonitor) : (s.setLine x).osc = s.osc := rfl
@[simp] theorem State.setLine_freeIndex (x : LineMonitor) : (s.setLine x).freeIndex = s.freeIndex := rfl

@[simp] theorem State.setSupply_pending (x : SupplyController) : (s.setSupply x).pending = s.pending := rfl
@[simp] theorem State.setSupply_table (x : SupplyController) : (s.setSupply x).table = s.table := rfl
@[simp] theorem State.setSupply_calendar (x : SupplyController) : (s.setSupply x).calendar = s.calendar := rfl
@[simp] theorem State.setSupply_channels (x : SupplyController) : (s.setSupply x).channels = s.channels := rfl
@[simp] theorem State.setSupply_freeCount (x : SupplyController) : (s.setSupply x).freeCount = s.freeCount := rfl
@[simp] theorem State.setSupply_engine (x : SupplyController) : (s.setSupply x).engine = s.engine := rfl
@[simp] theorem State.setSupply_buttons (x : SupplyController) : (s.setSupply x).buttons = s.buttons := rfl
@[simp] theorem State.setSupply_light (x : SupplyController) : (s.setSupply x).light = s.light := rfl
@[simp] theorem State.setSupply_time (x : SupplyController) : (s.setSupply x).time = s.time := rfl
@[simp] theorem State.setSupply_line (x : SupplyController) : (s.setSupply x).line = s.line := rfl
@[simp] theorem State.setSupply_supply (x : SupplyController) : (s.setSupply x).supply = x := rfl
@[simp] theorem State.setSupply_store (x : SupplyController) : (s.setSupply x).store = s.store := rfl
@[simp] theorem State.setSupply_port (x : SupplyController) : (s.setSupply x).port = s.port := rfl
@[simp] theorem State.setSupply_cycles (x : SupplyController) : (s.setSupply x).cycles = s.cycles := rfl
@[simp] theorem State.setSupply_osc (x : SupplyController) : (s.setSupply x).osc = s.osc := rfl
@[simp] theorem State.setSupply_freeIndex (x : SupplyController) : (s.setSupply x).freeIndex = s.freeIndex := rfl

@[simp] theorem State.setStore_pending (x : ProgramStore) : (s.setStore x).pending = s.pending := rfl
@[simp] theorem State.setStore_table (x : ProgramStore) : (s.setStore x).table = s.table := rfl
@[simp] theorem State.setStore_calendar (x : ProgramStore) : (s.setStore x).calendar = s.calendar := rfl
@[simp] theorem State.setStore_channels (x : ProgramStore) : (s.setStore x).channels = s.channels := rfl
@[simp] theorem State.setStore_freeCount (x : ProgramStore) : (s.setStore x).freeCount = s.freeCount := rfl
@[simp] theorem State.setStore_engine (x : ProgramStore) : (s.setStore x).engine = s.engine := rfl
@[simp] theorem State.setStore_buttons (x : ProgramStore) : (s.setStore x).buttons = s.buttons := rfl
@[simp] theorem State.setStore_light (x : ProgramStore) : (s.setStore x).light = s.light := rfl
@[simp] theorem State.setStore_time (x : ProgramStore) : (s.setStore x).time = s.time := rfl
@[simp] theorem State.setStore_line (x : ProgramStore) : (s.setStore x).line = s.line := rfl
@[simp] theorem State.setStore_supply (x : ProgramStore) : (s.setStore x).supply = s.supply := rfl
@[simp] theorem State.setStore_store (x : ProgramStore) : (s.setStore x).store = x := rfl
@[simp] theorem State.setStore_port (x : ProgramStore) : (s.setStore x).port = s.port := rfl
@[simp] theorem State.setStore_cycles (x : ProgramStore) : (s.setStore x).cycles = s.cycles := rfl
@[simp] theorem State.setStore_osc (x : ProgramStore) : (s.setStore x).osc = s.osc := rfl
@[simp] theorem State.setStore_freeIndex (x : ProgramStore) : (s.setStore x).freeIndex = s.freeIndex := rfl

@[simp] theorem State.setPort_pending (x : HostPort) : (s.setPort x).pending = s.pending := rfl
@[simp] theorem State.setPort_table (x : HostPort) : (s.setPort x).table = s.table := rfl
@[simp] theorem State.setPort_calendar (x : HostPort) : (s.setPort x).calendar = s.calendar := rfl
@[simp] theorem State.setPort_channels (x : HostPort) : (s.setPort x).channels = s.channels := rfl
@[simp] theorem State.setPort_freeCount (x : HostPort) : (s.setPort x).freeCount = s.freeCount := rfl
@[simp] theorem State.setPort_engine (x : HostPort) : (s.setPort x).engine = s.engine := rfl
@[simp] theorem State.setPort_buttons (x : HostPort) : (s.setPort x).buttons = s.buttons := rfl
@[simp] theorem State.setPort_light (x : HostPort) : (s.setPort x).light = s.light := rfl
@[simp] theorem State.setPort_time (x : HostPort) : (s.setPort x).time = s.time := rfl
@[simp] theorem State.setPort_line (x : HostPort) : (s.setPort x).line = s.line := rfl
@[simp] theorem State.setPort_supply (x : HostPort) : (s.setPort x).supply = s.supply := rfl
@[simp] theorem State.setPort_store (x : HostPort) : (s.setPort x).store = s.store := rfl
@[simp] theorem State.setPort_port (x : HostPort) : (s.setPort x).port = x := rfl
@[simp] theorem State.setPort_cycles (x : HostPort) : (s.setPort x).cycles = s.cycles := rfl
@[simp] theorem State.setPort_osc (x : HostPort) : (s.setPort x).osc = s.osc := rfl
@[simp] theorem State.setPort_freeIndex (x : HostPort) : (s.setPort x).freeIndex = s.freeIndex := rfl

@[simp] theorem State.setPending_pending (x : List Instr) : (s.setPending x).pending = x := rfl
@[simp] theorem State.setPending_table (x : List Instr) : (s.setPending x).table = s.table := rfl
@[simp] theorem State.setPending_calendar (x : List Instr) : (s.setPending x).calendar = s.calendar := rfl
@[simp] theorem State.setPending_channels (x : List Instr) : (s.setPending x).channels = s.channels := rfl
@[simp] theorem State.setPending_freeCount (x : List Instr) : (s.setPending x).freeCount = s.freeCount := rfl
@[simp] theorem State.setPending_engine (x : List Instr) : (s.setPending x).engine = s.engine := rfl
@[simp] theorem State.setPending_buttons (x : List Instr) : (s.setPending x).buttons = s.buttons := rfl
@[simp] theorem State.setPending_light (x : List Instr) : (s.setPending x).light = s.light := rfl
@[simp] theorem State.setPending_time (x : List Instr) : (s.setPending x).time = s.time := rfl
@[simp] theorem State.setPending_line (x : List Instr) : (s.setPending x).line = s.line := rfl
@[simp] theorem State.setPending_supply (x : List Instr) : (s.setPending x).supply = s.supply := rfl
@[simp] theorem State.setPending_store (x : List Instr) : (s.setPending x).store = s.store := rfl
@[simp] theorem State.setPending_port (x : List Instr) : (s.setPending x).port = s.port := rfl
@[simp] theorem State.setPending_cycles (x : List Instr) : (s.setPending x).cycles = s.cycles := rfl
@[simp] theorem State.setPending_osc (x : List Instr) : (s.setPending x).osc = s.osc := rfl
@[simp] theorem State.setPending_freeIndex (x : List Instr) : (s.setPending x).freeIndex = s.freeIndex := rfl

@[simp] theorem State.setFreeIndex_pending (x : Nat) : (s.setFreeIndex x).pending = s.pending := rfl
@[simp] theorem State.setFreeIndex_table (x : Nat) : (s.setFreeIndex x).table = s.table := rfl
@[simp] theorem State.setFreeIndex_calendar (x : Nat) : (s.setFreeIndex x).calendar = s.calendar := rfl
@[simp] theorem State.setFreeIndex_channels (x : Nat) : (s.setFreeIndex x).channels = s.channels := rfl
@[simp] theorem State.setFreeIndex_freeCount (x : Nat) : (s.setFreeIndex x).freeCount = s.freeCount := rfl
@[simp] theorem State.setFreeIndex_engine (x : Nat) : (s.setFreeIndex x).engine = s.engine := rfl
@[simp] theorem State.setFreeIndex_buttons (x : Nat) : (s.setFreeIndex x).buttons = s.buttons := rfl
@[simp] theorem State.setFreeIndex_light (x : Nat) : (s.setFreeIndex x).light = s.light := rfl
@[simp] theorem State.setFreeIndex_time (x : Nat) : (s.setFreeIndex x).time = s.time := rfl
@[simp] theorem State.setFreeIndex_line (x : Nat) : (s.setFreeIndex x).line = s.line := rfl
@[simp] theorem State.setFreeIndex_supply (x : Nat) : (s.setFreeIndex x).supply = s.supply := rfl
@[simp] theorem State.setFreeIndex_store (x : Nat) : (s.setFreeIndex x).store = s.store := rfl
@[simp] theorem State.setFreeIndex_port (x : Nat) : (s.setFreeIndex x).port = s.port := rfl
@[simp] theorem State.setFreeIndex_cycles (x : Nat) : (s.setFreeIndex x).cycles = s.cycles := rfl
@[simp] theorem State.setFreeIndex_osc (x : Nat) : (s.setFreeIndex x).osc = s.osc := rfl
@[simp] theorem State.setFreeIndex_freeIndex (x : Nat) : (s.setFreeIndex x).freeIndex = x := rfl

@[simp] theorem State.setClocks_pending (m n : Nat) : (s.setClocks m n).pending = s.pending := rfl
@[simp] theorem State.setClocks_table (m n : Nat) : (s.setClocks m n).table = s.table := rfl
@[simp] theorem State.setClocks_calendar (m n : Nat) : (s.setClocks m n).calendar = s.calendar := rfl
@[simp] theorem State.setClocks_channels (m n : Nat) : (s.setClocks m n).channels = s.channels := rfl
@[simp] theorem State.setClocks_freeCount (m n : Nat) : (s.setClocks m n).freeCount = s.freeCount := rfl
@[simp] theorem State.setClocks_engine (m n : Nat) : (s.setClocks m n).engine = s.engine := rfl
@[simp] theorem State.setClocks_buttons (m n : Nat) : (s.setClocks m n).buttons = s.buttons := rfl
@[simp] theorem State.setClocks_light (m n : Nat) : (s.setClocks m n).light = s.light := rfl
@[simp] theorem State.setClocks_time (m n : Nat) : (s.setClocks m n).time = s.time := rfl
@[simp] theorem State.setClocks_line (m n : Nat) : (s.setClocks m n).line = s.line := rfl
@[simp] theorem State.setClocks_supply (m n : Nat) : (s.setClocks m n).supply = s.supply := rfl
@[simp] theorem State.setClocks_store (m n : Nat) : (s.setClocks m n).store = s.store := rfl
@[simp] theorem State.setClocks_port (m n : Nat) : (s.setClocks m n).port = s.port := rfl
@[simp] theorem State.setClocks_cycles (m n : Nat) : (s.setClocks m n).cycles = m := rfl
@[simp] theorem State.setClocks_osc (m n : Nat) : (s.setClocks m n).osc = n := rfl
@[simp] theorem State.setClocks_freeIndex (m n : Nat) : (s.setClocks m n).freeIndex = s.freeIndex := rfl

/-! ## A change raised for the host touches the change set alone -/

@[simp] theorem State.raise_pending (k : ChangeKind) (i : Nat) (r : Word) : (s.raise k i r).pending = s.pending := rfl
@[simp] theorem State.raise_table (k : ChangeKind) (i : Nat) (r : Word) : (s.raise k i r).table = s.table := rfl
@[simp] theorem State.raise_calendar (k : ChangeKind) (i : Nat) (r : Word) : (s.raise k i r).calendar = s.calendar := rfl
@[simp] theorem State.raise_channels (k : ChangeKind) (i : Nat) (r : Word) : (s.raise k i r).channels = s.channels := rfl
@[simp] theorem State.raise_freeCount (k : ChangeKind) (i : Nat) (r : Word) : (s.raise k i r).freeCount = s.freeCount := rfl
@[simp] theorem State.raise_engine (k : ChangeKind) (i : Nat) (r : Word) : (s.raise k i r).engine = s.engine := rfl
@[simp] theorem State.raise_buttons (k : ChangeKind) (i : Nat) (r : Word) : (s.raise k i r).buttons = s.buttons := rfl
@[simp] theorem State.raise_light (k : ChangeKind) (i : Nat) (r : Word) : (s.raise k i r).light = s.light := rfl
@[simp] theorem State.raise_time (k : ChangeKind) (i : Nat) (r : Word) : (s.raise k i r).time = s.time := rfl
@[simp] theorem State.raise_line (k : ChangeKind) (i : Nat) (r : Word) : (s.raise k i r).line = s.line := rfl
@[simp] theorem State.raise_supply (k : ChangeKind) (i : Nat) (r : Word) : (s.raise k i r).supply = s.supply := rfl
@[simp] theorem State.raise_store (k : ChangeKind) (i : Nat) (r : Word) : (s.raise k i r).store = s.store := rfl
@[simp] theorem State.raise_cycles (k : ChangeKind) (i : Nat) (r : Word) : (s.raise k i r).cycles = s.cycles := rfl
@[simp] theorem State.raise_osc (k : ChangeKind) (i : Nat) (r : Word) : (s.raise k i r).osc = s.osc := rfl
@[simp] theorem State.raise_freeIndex (k : ChangeKind) (i : Nat) (r : Word) : (s.raise k i r).freeIndex = s.freeIndex := rfl
@[simp] theorem State.raise_port (k : ChangeKind) (i : Nat) (r : Word) :
    (s.raise k i r).port = { s.port with changes := addReasons k i r s.port.changes } := rfl

end Sys2Proof.Machine
end

