-- ==== Sys2Proof/Laws/Updates.lean ====
section
/-! SUPPORT. One lemma for each field of the state under each update of one record or of the change set, and what two updates of one
record in turn come to. -/

namespace Sys2Proof.Machine

variable (s : State)

@[simp] theorem State.setSlot_pending (i : SlotNo) (x : Slot) : (s.setSlot i x).pending = s.pending := rfl
@[simp] theorem State.setSlot_calendar (i : SlotNo) (x : Slot) : (s.setSlot i x).calendar = s.calendar := rfl
@[simp] theorem State.setSlot_channels (i : SlotNo) (x : Slot) : (s.setSlot i x).channels = s.channels := rfl
@[simp] theorem State.setSlot_freeCount (i : SlotNo) (x : Slot) : (s.setSlot i x).freeCount = s.freeCount := rfl
@[simp] theorem State.setSlot_engine (i : SlotNo) (x : Slot) : (s.setSlot i x).engine = s.engine := rfl
@[simp] theorem State.setSlot_buttons (i : SlotNo) (x : Slot) : (s.setSlot i x).buttons = s.buttons := rfl
@[simp] theorem State.setSlot_light (i : SlotNo) (x : Slot) : (s.setSlot i x).light = s.light := rfl
@[simp] theorem State.setSlot_time (i : SlotNo) (x : Slot) : (s.setSlot i x).time = s.time := rfl
@[simp] theorem State.setSlot_line (i : SlotNo) (x : Slot) : (s.setSlot i x).line = s.line := rfl
@[simp] theorem State.setSlot_supply (i : SlotNo) (x : Slot) : (s.setSlot i x).supply = s.supply := rfl
@[simp] theorem State.setSlot_store (i : SlotNo) (x : Slot) : (s.setSlot i x).store = s.store := rfl
@[simp] theorem State.setSlot_port (i : SlotNo) (x : Slot) : (s.setSlot i x).port = s.port := rfl
@[simp] theorem State.setSlot_cycles (i : SlotNo) (x : Slot) : (s.setSlot i x).cycles = s.cycles := rfl
@[simp] theorem State.setSlot_osc (i : SlotNo) (x : Slot) : (s.setSlot i x).osc = s.osc := rfl
@[simp] theorem State.setSlot_freeIndex (i : SlotNo) (x : Slot) : (s.setSlot i x).freeIndex = s.freeIndex := rfl

@[simp] theorem State.setEntry_pending (i : SlotNo) (e : Entry) : (s.setEntry i e).pending = s.pending := rfl
@[simp] theorem State.setEntry_calendar (i : SlotNo) (e : Entry) : (s.setEntry i e).calendar = s.calendar := rfl
@[simp] theorem State.setEntry_channels (i : SlotNo) (e : Entry) : (s.setEntry i e).channels = s.channels := rfl
@[simp] theorem State.setEntry_freeCount (i : SlotNo) (e : Entry) : (s.setEntry i e).freeCount = s.freeCount := rfl
@[simp] theorem State.setEntry_engine (i : SlotNo) (e : Entry) : (s.setEntry i e).engine = s.engine := rfl
@[simp] theorem State.setEntry_buttons (i : SlotNo) (e : Entry) : (s.setEntry i e).buttons = s.buttons := rfl
@[simp] theorem State.setEntry_light (i : SlotNo) (e : Entry) : (s.setEntry i e).light = s.light := rfl
@[simp] theorem State.setEntry_time (i : SlotNo) (e : Entry) : (s.setEntry i e).time = s.time := rfl
@[simp] theorem State.setEntry_line (i : SlotNo) (e : Entry) : (s.setEntry i e).line = s.line := rfl
@[simp] theorem State.setEntry_supply (i : SlotNo) (e : Entry) : (s.setEntry i e).supply = s.supply := rfl
@[simp] theorem State.setEntry_store (i : SlotNo) (e : Entry) : (s.setEntry i e).store = s.store := rfl
@[simp] theorem State.setEntry_port (i : SlotNo) (e : Entry) : (s.setEntry i e).port = s.port := rfl
@[simp] theorem State.setEntry_cycles (i : SlotNo) (e : Entry) : (s.setEntry i e).cycles = s.cycles := rfl
@[simp] theorem State.setEntry_osc (i : SlotNo) (e : Entry) : (s.setEntry i e).osc = s.osc := rfl
@[simp] theorem State.setEntry_freeIndex (i : SlotNo) (e : Entry) : (s.setEntry i e).freeIndex = s.freeIndex := rfl

@[simp] theorem State.setChan_pending (c : Chan) (x : Channel) : (s.setChan c x).pending = s.pending := rfl
@[simp] theorem State.setChan_table (c : Chan) (x : Channel) : (s.setChan c x).table = s.table := rfl
@[simp] theorem State.setChan_calendar (c : Chan) (x : Channel) : (s.setChan c x).calendar = s.calendar := rfl
@[simp] theorem State.setChan_freeCount (c : Chan) (x : Channel) : (s.setChan c x).freeCount = s.freeCount := rfl
@[simp] theorem State.setChan_engine (c : Chan) (x : Channel) : (s.setChan c x).engine = s.engine := rfl
@[simp] theorem State.setChan_buttons (c : Chan) (x : Channel) : (s.setChan c x).buttons = s.buttons := rfl
@[simp] theorem State.setChan_light (c : Chan) (x : Channel) : (s.setChan c x).light = s.light := rfl
@[simp] theorem State.setChan_time (c : Chan) (x : Channel) : (s.setChan c x).time = s.time := rfl
@[simp] theorem State.setChan_line (c : Chan) (x : Channel) : (s.setChan c x).line = s.line := rfl
@[simp] theorem State.setChan_supply (c : Chan) (x : Channel) : (s.setChan c x).supply = s.supply := rfl
@[simp] theorem State.setChan_store (c : Chan) (x : Channel) : (s.setChan c x).store = s.store := rfl
@[simp] theorem State.setChan_port (c : Chan) (x : Channel) : (s.setChan c x).port = s.port := rfl
@[simp] theorem State.setChan_cycles (c : Chan) (x : Channel) : (s.setChan c x).cycles = s.cycles := rfl
@[simp] theorem State.setChan_osc (c : Chan) (x : Channel) : (s.setChan c x).osc = s.osc := rfl
@[simp] theorem State.setChan_freeIndex (c : Chan) (x : Channel) : (s.setChan c x).freeIndex = s.freeIndex := rfl

@[simp] theorem State.setClaims_pending (c : Chan) (l : List Claim) : (s.setClaims c l).pending = s.pending := rfl
@[simp] theorem State.setClaims_table (c : Chan) (l : List Claim) : (s.setClaims c l).table = s.table := rfl
@[simp] theorem State.setClaims_calendar (c : Chan) (l : List Claim) : (s.setClaims c l).calendar = s.calendar := rfl
@[simp] theorem State.setClaims_freeCount (c : Chan) (l : List Claim) : (s.setClaims c l).freeCount = s.freeCount := rfl
@[simp] theorem State.setClaims_engine (c : Chan) (l : List Claim) : (s.setClaims c l).engine = s.engine := rfl
@[simp] theorem State.setClaims_buttons (c : Chan) (l : List Claim) : (s.setClaims c l).buttons = s.buttons := rfl
@[simp] theorem State.setClaims_light (c : Chan) (l : List Claim) : (s.setClaims c l).light = s.light := rfl
@[simp] theorem State.setClaims_time (c : Chan) (l : List Claim) : (s.setClaims c l).time = s.time := rfl
@[simp] theorem State.setClaims_line (c : Chan) (l : List Claim) : (s.setClaims c l).line = s.line := rfl
@[simp] theorem State.setClaims_supply (c : Chan) (l : List Claim) : (s.setClaims c l).supply = s.supply := rfl
@[simp] theorem State.setClaims_store (c : Chan) (l : List Claim) : (s.setClaims c l).store = s.store := rfl
@[simp] theorem State.setClaims_port (c : Chan) (l : List Claim) : (s.setClaims c l).port = s.port := rfl
@[simp] theorem State.setClaims_cycles (c : Chan) (l : List Claim) : (s.setClaims c l).cycles = s.cycles := rfl
@[simp] theorem State.setClaims_osc (c : Chan) (l : List Claim) : (s.setClaims c l).osc = s.osc := rfl
@[simp] theorem State.setClaims_freeIndex (c : Chan) (l : List Claim) : (s.setClaims c l).freeIndex = s.freeIndex := rfl

@[simp] theorem State.setSwitch_pending (c : Chan) (x : SwitchState) : (s.setSwitch c x).pending = s.pending := rfl
@[simp] theorem State.setSwitch_table (c : Chan) (x : SwitchState) : (s.setSwitch c x).table = s.table := rfl
@[simp] theorem State.setSwitch_calendar (c : Chan) (x : SwitchState) : (s.setSwitch c x).calendar = s.calendar := rfl
@[simp] theorem State.setSwitch_freeCount (c : Chan) (x : SwitchState) : (s.setSwitch c x).freeCount = s.freeCount := rfl
@[simp] theorem State.setSwitch_engine (c : Chan) (x : SwitchState) : (s.setSwitch c x).engine = s.engine := rfl
@[simp] theorem State.setSwitch_buttons (c : Chan) (x : SwitchState) : (s.setSwitch c x).buttons = s.buttons := rfl
@[simp] theorem State.setSwitch_light (c : Chan) (x : SwitchState) : (s.setSwitch c x).light = s.light := rfl
@[simp] theorem State.setSwitch_time (c : Chan) (x : SwitchState) : (s.setSwitch c x).time = s.time := rfl
@[simp] theorem State.setSwitch_line (c : Chan) (x : SwitchState) : (s.setSwitch c x).line = s.line := rfl
@[simp] theorem State.setSwitch_supply (c : Chan) (x : SwitchState) : (s.setSwitch c x).supply = s.supply := rfl
@[simp] theorem State.setSwitch_store (c : Chan) (x : SwitchState) : (s.setSwitch c x).store = s.store := rfl
@[simp] theorem State.setSwitch_port (c : Chan) (x : SwitchState) : (s.setSwitch c x).port = s.port := rfl
@[simp] theorem State.setSwitch_cycles (c : Chan) (x : SwitchState) : (s.setSwitch c x).cycles = s.cycles := rfl
@[simp] theorem State.setSwitch_osc (c : Chan) (x : SwitchState) : (s.setSwitch c x).osc = s.osc := rfl
@[simp] theorem State.setSwitch_freeIndex (c : Chan) (x : SwitchState) : (s.setSwitch c x).freeIndex = s.freeIndex := rfl

@[simp] theorem State.setButton_pending (b : ButtonNo) (x : Button) : (s.setButton b x).pending = s.pending := rfl
@[simp] theorem State.setButton_table (b : ButtonNo) (x : Button) : (s.setButton b x).table = s.table := rfl
@[simp] theorem State.setButton_calendar (b : ButtonNo) (x : Button) : (s.setButton b x).calendar = s.calendar := rfl
@[simp] theorem State.setButton_channels (b : ButtonNo) (x : Button) : (s.setButton b x).channels = s.channels := rfl
@[simp] theorem State.setButton_freeCount (b : ButtonNo) (x : Button) : (s.setButton b x).freeCount = s.freeCount := rfl
@[simp] theorem State.setButton_engine (b : ButtonNo) (x : Button) : (s.setButton b x).engine = s.engine := rfl
@[simp] theorem State.setButton_light (b : ButtonNo) (x : Button) : (s.setButton b x).light = s.light := rfl
@[simp] theorem State.setButton_time (b : ButtonNo) (x : Button) : (s.setButton b x).time = s.time := rfl
@[simp] theorem State.setButton_line (b : ButtonNo) (x : Button) : (s.setButton b x).line = s.line := rfl
@[simp] theorem State.setButton_supply (b : ButtonNo) (x : Button) : (s.setButton b x).supply = s.supply := rfl
@[simp] theorem State.setButton_store (b : ButtonNo) (x : Button) : (s.setButton b x).store = s.store := rfl
@[simp] theorem State.setButton_port (b : ButtonNo) (x : Button) : (s.setButton b x).port = s.port := rfl
@[simp] theorem State.setButton_cycles (b : ButtonNo) (x : Button) : (s.setButton b x).cycles = s.cycles := rfl
@[simp] theorem State.setButton_osc (b : ButtonNo) (x : Button) : (s.setButton b x).osc = s.osc := rfl
@[simp] theorem State.setButton_freeIndex (b : ButtonNo) (x : Button) : (s.setButton b x).freeIndex = s.freeIndex := rfl

@[simp] theorem State.raiseEntry_pending (i : SlotNo) (r : EntryReason) : (s.raiseEntry i r).pending = s.pending := rfl
@[simp] theorem State.raiseEntry_table (i : SlotNo) (r : EntryReason) : (s.raiseEntry i r).table = s.table := rfl
@[simp] theorem State.raiseEntry_calendar (i : SlotNo) (r : EntryReason) : (s.raiseEntry i r).calendar = s.calendar := rfl
@[simp] theorem State.raiseEntry_channels (i : SlotNo) (r : EntryReason) : (s.raiseEntry i r).channels = s.channels := rfl
@[simp] theorem State.raiseEntry_freeCount (i : SlotNo) (r : EntryReason) : (s.raiseEntry i r).freeCount = s.freeCount := rfl
@[simp] theorem State.raiseEntry_engine (i : SlotNo) (r : EntryReason) : (s.raiseEntry i r).engine = s.engine := rfl
@[simp] theorem State.raiseEntry_buttons (i : SlotNo) (r : EntryReason) : (s.raiseEntry i r).buttons = s.buttons := rfl
@[simp] theorem State.raiseEntry_light (i : SlotNo) (r : EntryReason) : (s.raiseEntry i r).light = s.light := rfl
@[simp] theorem State.raiseEntry_time (i : SlotNo) (r : EntryReason) : (s.raiseEntry i r).time = s.time := rfl
@[simp] theorem State.raiseEntry_line (i : SlotNo) (r : EntryReason) : (s.raiseEntry i r).line = s.line := rfl
@[simp] theorem State.raiseEntry_supply (i : SlotNo) (r : EntryReason) : (s.raiseEntry i r).supply = s.supply := rfl
@[simp] theorem State.raiseEntry_store (i : SlotNo) (r : EntryReason) : (s.raiseEntry i r).store = s.store := rfl
@[simp] theorem State.raiseEntry_cycles (i : SlotNo) (r : EntryReason) : (s.raiseEntry i r).cycles = s.cycles := rfl
@[simp] theorem State.raiseEntry_osc (i : SlotNo) (r : EntryReason) : (s.raiseEntry i r).osc = s.osc := rfl
@[simp] theorem State.raiseEntry_freeIndex (i : SlotNo) (r : EntryReason) : (s.raiseEntry i r).freeIndex = s.freeIndex := rfl

@[simp] theorem State.raiseChannel_pending (c : Chan) (r : ChannelReason) : (s.raiseChannel c r).pending = s.pending := rfl
@[simp] theorem State.raiseChannel_table (c : Chan) (r : ChannelReason) : (s.raiseChannel c r).table = s.table := rfl
@[simp] theorem State.raiseChannel_calendar (c : Chan) (r : ChannelReason) : (s.raiseChannel c r).calendar = s.calendar := rfl
@[simp] theorem State.raiseChannel_channels (c : Chan) (r : ChannelReason) : (s.raiseChannel c r).channels = s.channels := rfl
@[simp] theorem State.raiseChannel_freeCount (c : Chan) (r : ChannelReason) : (s.raiseChannel c r).freeCount = s.freeCount := rfl
@[simp] theorem State.raiseChannel_engine (c : Chan) (r : ChannelReason) : (s.raiseChannel c r).engine = s.engine := rfl
@[simp] theorem State.raiseChannel_buttons (c : Chan) (r : ChannelReason) : (s.raiseChannel c r).buttons = s.buttons := rfl
@[simp] theorem State.raiseChannel_light (c : Chan) (r : ChannelReason) : (s.raiseChannel c r).light = s.light := rfl
@[simp] theorem State.raiseChannel_time (c : Chan) (r : ChannelReason) : (s.raiseChannel c r).time = s.time := rfl
@[simp] theorem State.raiseChannel_line (c : Chan) (r : ChannelReason) : (s.raiseChannel c r).line = s.line := rfl
@[simp] theorem State.raiseChannel_supply (c : Chan) (r : ChannelReason) : (s.raiseChannel c r).supply = s.supply := rfl
@[simp] theorem State.raiseChannel_store (c : Chan) (r : ChannelReason) : (s.raiseChannel c r).store = s.store := rfl
@[simp] theorem State.raiseChannel_cycles (c : Chan) (r : ChannelReason) : (s.raiseChannel c r).cycles = s.cycles := rfl
@[simp] theorem State.raiseChannel_osc (c : Chan) (r : ChannelReason) : (s.raiseChannel c r).osc = s.osc := rfl
@[simp] theorem State.raiseChannel_freeIndex (c : Chan) (r : ChannelReason) : (s.raiseChannel c r).freeIndex = s.freeIndex := rfl

@[simp] theorem State.raiseCalendar_pending (r : CalendarReason) : (s.raiseCalendar r).pending = s.pending := rfl
@[simp] theorem State.raiseCalendar_table (r : CalendarReason) : (s.raiseCalendar r).table = s.table := rfl
@[simp] theorem State.raiseCalendar_calendar (r : CalendarReason) : (s.raiseCalendar r).calendar = s.calendar := rfl
@[simp] theorem State.raiseCalendar_channels (r : CalendarReason) : (s.raiseCalendar r).channels = s.channels := rfl
@[simp] theorem State.raiseCalendar_freeCount (r : CalendarReason) : (s.raiseCalendar r).freeCount = s.freeCount := rfl
@[simp] theorem State.raiseCalendar_engine (r : CalendarReason) : (s.raiseCalendar r).engine = s.engine := rfl
@[simp] theorem State.raiseCalendar_buttons (r : CalendarReason) : (s.raiseCalendar r).buttons = s.buttons := rfl
@[simp] theorem State.raiseCalendar_light (r : CalendarReason) : (s.raiseCalendar r).light = s.light := rfl
@[simp] theorem State.raiseCalendar_time (r : CalendarReason) : (s.raiseCalendar r).time = s.time := rfl
@[simp] theorem State.raiseCalendar_line (r : CalendarReason) : (s.raiseCalendar r).line = s.line := rfl
@[simp] theorem State.raiseCalendar_supply (r : CalendarReason) : (s.raiseCalendar r).supply = s.supply := rfl
@[simp] theorem State.raiseCalendar_store (r : CalendarReason) : (s.raiseCalendar r).store = s.store := rfl
@[simp] theorem State.raiseCalendar_cycles (r : CalendarReason) : (s.raiseCalendar r).cycles = s.cycles := rfl
@[simp] theorem State.raiseCalendar_osc (r : CalendarReason) : (s.raiseCalendar r).osc = s.osc := rfl
@[simp] theorem State.raiseCalendar_freeIndex (r : CalendarReason) : (s.raiseCalendar r).freeIndex = s.freeIndex := rfl

@[simp] theorem State.raiseSystem_pending (r : SystemReason) : (s.raiseSystem r).pending = s.pending := rfl
@[simp] theorem State.raiseSystem_table (r : SystemReason) : (s.raiseSystem r).table = s.table := rfl
@[simp] theorem State.raiseSystem_calendar (r : SystemReason) : (s.raiseSystem r).calendar = s.calendar := rfl
@[simp] theorem State.raiseSystem_channels (r : SystemReason) : (s.raiseSystem r).channels = s.channels := rfl
@[simp] theorem State.raiseSystem_freeCount (r : SystemReason) : (s.raiseSystem r).freeCount = s.freeCount := rfl
@[simp] theorem State.raiseSystem_engine (r : SystemReason) : (s.raiseSystem r).engine = s.engine := rfl
@[simp] theorem State.raiseSystem_buttons (r : SystemReason) : (s.raiseSystem r).buttons = s.buttons := rfl
@[simp] theorem State.raiseSystem_light (r : SystemReason) : (s.raiseSystem r).light = s.light := rfl
@[simp] theorem State.raiseSystem_time (r : SystemReason) : (s.raiseSystem r).time = s.time := rfl
@[simp] theorem State.raiseSystem_line (r : SystemReason) : (s.raiseSystem r).line = s.line := rfl
@[simp] theorem State.raiseSystem_supply (r : SystemReason) : (s.raiseSystem r).supply = s.supply := rfl
@[simp] theorem State.raiseSystem_store (r : SystemReason) : (s.raiseSystem r).store = s.store := rfl
@[simp] theorem State.raiseSystem_cycles (r : SystemReason) : (s.raiseSystem r).cycles = s.cycles := rfl
@[simp] theorem State.raiseSystem_osc (r : SystemReason) : (s.raiseSystem r).osc = s.osc := rfl
@[simp] theorem State.raiseSystem_freeIndex (r : SystemReason) : (s.raiseSystem r).freeIndex = s.freeIndex := rfl

/-! ## Records under the change set -/

@[simp] theorem State.raise_slot (k : ChangeKind) (n : Nat) (r : Word) (j : SlotNo) : (s.raise k n r).slot j = s.slot j := rfl
@[simp] theorem State.raise_chan (k : ChangeKind) (n : Nat) (r : Word) (d : Chan) : (s.raise k n r).chan d = s.chan d := rfl
@[simp] theorem State.raise_button (k : ChangeKind) (n : Nat) (r : Word) (d : ButtonNo) : (s.raise k n r).button d = s.button d := rfl
@[simp] theorem State.raiseEntry_slot (i : SlotNo) (r : EntryReason) (j : SlotNo) : (s.raiseEntry i r).slot j = s.slot j := rfl
@[simp] theorem State.raiseEntry_chan (i : SlotNo) (r : EntryReason) (d : Chan) : (s.raiseEntry i r).chan d = s.chan d := rfl
@[simp] theorem State.raiseEntry_button (i : SlotNo) (r : EntryReason) (d : ButtonNo) : (s.raiseEntry i r).button d = s.button d := rfl
@[simp] theorem State.raiseChannel_slot (c : Chan) (r : ChannelReason) (j : SlotNo) : (s.raiseChannel c r).slot j = s.slot j := rfl
@[simp] theorem State.raiseChannel_chan (c : Chan) (r : ChannelReason) (d : Chan) : (s.raiseChannel c r).chan d = s.chan d := rfl
@[simp] theorem State.raiseChannel_button (c : Chan) (r : ChannelReason) (d : ButtonNo) : (s.raiseChannel c r).button d = s.button d := rfl
@[simp] theorem State.raiseCalendar_slot (r : CalendarReason) (j : SlotNo) : (s.raiseCalendar r).slot j = s.slot j := rfl
@[simp] theorem State.raiseCalendar_chan (r : CalendarReason) (d : Chan) : (s.raiseCalendar r).chan d = s.chan d := rfl
@[simp] theorem State.raiseCalendar_button (r : CalendarReason) (d : ButtonNo) : (s.raiseCalendar r).button d = s.button d := rfl
@[simp] theorem State.raiseSystem_slot (r : SystemReason) (j : SlotNo) : (s.raiseSystem r).slot j = s.slot j := rfl
@[simp] theorem State.raiseSystem_chan (r : SystemReason) (d : Chan) : (s.raiseSystem r).chan d = s.chan d := rfl
@[simp] theorem State.raiseSystem_button (r : SystemReason) (d : ButtonNo) : (s.raiseSystem r).button d = s.button d := rfl

/-! ## Two updates of one record -/

@[simp] theorem State.setSlot_setSlot (i : SlotNo) (x y : Slot) : (s.setSlot i x).setSlot i y = s.setSlot i y := by
  simp [State.setSlot, State.setTable]

@[simp] theorem State.setChan_setChan (c : Chan) (x y : Channel) : (s.setChan c x).setChan c y = s.setChan c y := by
  simp [State.setChan, State.setChannels]

@[simp] theorem State.setButton_setButton (b : ButtonNo) (x y : Button) : (s.setButton b x).setButton b y = s.setButton b y := by
  simp [State.setButton, State.setButtons]

/-- Putting a channel back as it stands changes nothing. -/
@[simp] theorem State.setChan_self (c : Chan) : s.setChan c (s.chan c) = s := by
  simp [State.setChan, State.setChannels, State.chan]

/-- Putting a button back as it stands changes nothing. -/
@[simp] theorem State.setButton_self (b : ButtonNo) : s.setButton b (s.button b) = s := by
  simp [State.setButton, State.setButtons, State.button]

/-- Putting a slot back as it stands changes nothing. -/
@[simp] theorem State.setSlot_self (i : SlotNo) : s.setSlot i (s.slot i) = s := by
  simp [State.setSlot, State.setTable, State.slot]

end Sys2Proof.Machine
end

