-- ==== Sys2Proof/Laws/Ops.lean ====
section
/-! SUPPORT. What the shared operations leave alone: the claim, target, entry and calendar operations touch nothing outside the three
schedule blocks, the requests at the Switching Engine and the change set. -/

namespace Sys2Proof.Machine

/-! ## The relation -/

theorem State.SameElsewhere.refl (s : State) : s.SameElsewhere s := by constructor <;> rfl

theorem State.SameElsewhere.trans {s t u : State} (h : s.SameElsewhere t) (k : t.SameElsewhere u) : s.SameElsewhere u where
  buttons := k.buttons.trans h.buttons
  light := k.light.trans h.light
  time := k.time.trans h.time
  line := k.line.trans h.line
  supply := k.supply.trans h.supply
  store := k.store.trans h.store
  stagger := k.stagger.trans h.stagger
  nextTick := k.nextTick.trans h.nextTick
  port := by
    have h1 := h.port
    have h2 := k.port
    cases hs : s.port; cases ht : t.port; cases hu : u.port
    simp_all
  pending := k.pending.trans h.pending
  cycles := k.cycles.trans h.cycles
  osc := k.osc.trans h.osc
  freeIndex := k.freeIndex.trans h.freeIndex

/-- Doing something for each of a list keeps a relation that each of the doings keeps. -/
theorem forEach_rel {α : Type} (R : State → State → Prop) (hr : ∀ s, R s s) (ht : ∀ s t u, R s t → R t u → R s u)
    (l : List α) (f : State → α → State) (hf : ∀ s a, R s (f s a)) (s : State) : R s (s.forEach l f) := by
  unfold State.forEach
  induction l generalizing s with
  | nil => exact hr s
  | cons a rest ih => exact ht _ _ _ (hf s a) (ih (f s a))

theorem forEach_same {α : Type} (l : List α) (f : State → α → State)
    (hf : ∀ (s : State) (a : α), s.SameElsewhere (f s a)) (s : State) :
    s.SameElsewhere (s.forEach l f) :=
  forEach_rel State.SameElsewhere .refl (fun _ _ _ => .trans) l f hf s

/-! ## Replacements -/

theorem setTable_same (s : State) (x : ScheduleTable) : s.SameElsewhere (s.setTable x) := by constructor <;> rfl
theorem setCalendar_same (s : State) (x : ExceptionCalendar) : s.SameElsewhere (s.setCalendar x) := by constructor <;> rfl
theorem setChannels_same (s : State) (x : Vector Channel 16) : s.SameElsewhere (s.setChannels x) := by constructor <;> rfl
theorem setFreeCount_same (s : State) (x : Nat) : s.SameElsewhere (s.setFreeCount x) := by constructor <;> rfl
theorem raise_same (s : State) (k : ChangeKind) (i : Nat) (r : Word) : s.SameElsewhere (s.raise k i r) := by
  constructor <;> rfl
theorem setQueue_same (s : State) (q : List Chan) : s.SameElsewhere (s.setEngine { s.engine with queue := q }) := by
  constructor <;> rfl
theorem setSlot_same (s : State) (i : SlotNo) (x : Slot) : s.SameElsewhere (s.setSlot i x) := setTable_same _ _
theorem setEntry_same (s : State) (i : SlotNo) (e : Entry) : s.SameElsewhere (s.setEntry i e) := setTable_same _ _
theorem setChan_same (s : State) (c : Chan) (x : Channel) : s.SameElsewhere (s.setChan c x) := setChannels_same _ _
theorem setClaims_same (s : State) (c : Chan) (l : List Claim) : s.SameElsewhere (s.setClaims c l) := setChannels_same _ _
theorem setSwitch_same (s : State) (c : Chan) (x : SwitchState) : s.SameElsewhere (s.setSwitch c x) := setChannels_same _ _

/-! ## Targets and requests (R62, R87, R88) -/

theorem enqueue_same (s : State) (c : Chan) : s.SameElsewhere (s.enqueue c) :=
  (setSwitch_same s c .queued).trans (setQueue_same _ _)

theorem dequeue_same (s : State) (c : Chan) : s.SameElsewhere (s.dequeue c) :=
  (setSwitch_same s c .idle).trans (setQueue_same _ _)

theorem targetArrives_same (s : State) (c : Chan) (t : Bool) : s.SameElsewhere (s.targetArrives c t) := by
  unfold State.targetArrives
  dsimp only
  split
  · exact .refl s
  · split
    · split
      · exact enqueue_same s c
      · exact .refl s
    · split
      · exact dequeue_same s c
      · exact .refl s
    · exact .refl s
    · exact .refl s

theorem retarget_same (s : State) (c : Chan) : s.SameElsewhere (s.retarget c) := by
  unfold State.retarget
  dsimp only
  split
  · exact .refl s
  · exact ((setChan_same s c _).trans (raise_same _ _ _ _)).trans (targetArrives_same _ _ _)

theorem retargetAll_same (s : State) (cs : List Chan) : s.SameElsewhere (s.retargetAll cs) :=
  forEach_same cs _ retarget_same s

/-! ## Overrides and holds (R68, R70, R71) -/

theorem dropOverride_same (s : State) (c : Chan) : s.SameElsewhere (s.dropOverride c) := by
  unfold State.dropOverride
  split
  · exact (setClaims_same s c _).trans (raise_same _ _ _ _)
  · exact .refl s

theorem endUntilNext_same (s : State) (c : Chan) : s.SameElsewhere (s.endUntilNext c) := by
  unfold State.endUntilNext
  split
  · exact dropOverride_same s c
  · exact .refl s

theorem putOverride_same (s : State) (c : Chan) (a : Bool) (o : OverrideOrigin) (e : OverrideEnding) :
    s.SameElsewhere (s.putOverride c a o e) := (dropOverride_same s c).trans (setClaims_same _ _ _)

theorem putHold_same (s : State) (c : Chan) (a : Bool) : s.SameElsewhere (s.putHold c a) := setClaims_same _ _ _

theorem dropHold_same (s : State) (c : Chan) : s.SameElsewhere (s.dropHold c) := setClaims_same _ _ _

/-! ## Schedule claims (R65 to R67) -/

theorem placeClaims_same (s : State) (i : SlotNo) (b : EntryBody) (m : CalMinute) : s.SameElsewhere (s.placeClaims i b m) :=
  ((setFreeCount_same s _).trans (forEach_same _ _
    (fun s c => (setClaims_same s c _).trans (endUntilNext_same _ c)) _)).trans (retargetAll_same _ _)

theorem renewClaims_same (s : State) (i : SlotNo) (b : EntryBody) (m : CalMinute) : s.SameElsewhere (s.renewClaims i b m) :=
  (forEach_same _ _ (fun s c => setClaims_same s c _) s).trans (retargetAll_same _ _)

theorem takeClaims_same (s : State) (i : SlotNo) (b : EntryBody) : s.SameElsewhere (s.takeClaims i b) := by
  refine (setFreeCount_same s _).trans (forEach_same _ _ (fun s c => ?_) _)
  split
  · exact (setClaims_same s c _).trans (endUntilNext_same _ c)
  · exact .refl s

theorem removeClaims_same (s : State) (i : SlotNo) (b : EntryBody) : s.SameElsewhere (s.removeClaims i b) :=
  (takeClaims_same s i b).trans (retargetAll_same _ _)

/-! ## Entries (R9, R10, R20, R44) -/

theorem toEnded_same (s : State) (i : SlotNo) (e : Entry) (r : EndReason) : s.SameElsewhere (s.toEnded i e r) :=
  (setEntry_same s i _).trans (setTable_same _ _)

theorem clearSlot_same (s : State) (i : SlotNo) : s.SameElsewhere (s.clearSlot i) :=
  (setSlot_same s i _).trans (setTable_same _ _)

theorem start_same (s : State) (i : SlotNo) (f : Option CalMinute) : s.SameElsewhere (s.start i f) := by
  unfold State.start
  split
  · exact .refl s
  · split
    · split
      · exact (setEntry_same s i _).trans (raise_same _ _ _ _)
      · exact ((placeClaims_same s i _ _).trans (setEntry_same _ _ _)).trans (raise_same _ _ _ _)
    · split
      · exact .refl s
      · exact ((renewClaims_same s i _ _).trans (setEntry_same _ _ _)).trans (raise_same _ _ _ _)
    · exact .refl s

theorem endClaim_same (s : State) (i : SlotNo) : s.SameElsewhere (s.endClaim i) := by
  unfold State.endClaim
  split
  · exact .refl s
  · split
    · dsimp only
      have h := fun b => (removeClaims_same s i b).trans (raise_same _ .entry i.val EntryReason.claimEnded.bit)
      split
      · exact ((h _).trans (toEnded_same _ _ _ _)).trans (raise_same _ _ _ _)
      · split
        · exact ((h _).trans (toEnded_same _ _ _ _)).trans (raise_same _ _ _ _)
        · exact (h _).trans (setEntry_same _ _ _)
    · exact .refl s

theorem stripClaims_same (s : State) (i : SlotNo) (e : Entry) : s.SameElsewhere (s.stripClaims i e) := by
  unfold State.stripClaims
  split
  · exact (takeClaims_same s i _).trans (raise_same _ _ _ _)
  · exact .refl s

theorem retireOpen_same (s : State) (i : SlotNo) : s.SameElsewhere (s.retireOpen i) := by
  unfold State.retireOpen
  split
  · exact .refl s
  · exact ((stripClaims_same s i _).trans (clearSlot_same _ _)).trans (raise_same _ _ _ _)

theorem retire_same (s : State) (i : SlotNo) : s.SameElsewhere (s.retire i) := by
  unfold State.retire
  split
  · exact .refl s
  · exact (retireOpen_same s i).trans (retargetAll_same _ _)

theorem retireStored_same (s : State) (i : SlotNo) : s.SameElsewhere (s.retireStored i) := by
  unfold State.retireStored
  split
  · exact .refl s
  · split
    · exact retire_same s i
    · exact .refl s

theorem catchUp_same (s : State) (i : SlotNo) : s.SameElsewhere (s.catchUp i) := by
  unfold State.catchUp
  split
  · exact .refl s
  · split
    · split
      · dsimp only
        split
        · exact start_same s i _
        · exact .refl s
      · exact .refl s
    · exact .refl s

/-! ## The calendar (R53, R54, R59) -/

theorem recomputeToday_same (s : State) : s.SameElsewhere s.recomputeToday := setCalendar_same _ _

theorem lapse_same (s : State) : s.SameElsewhere s.lapse := by
  unfold State.lapse
  split
  · exact (setCalendar_same s _).trans (raise_same _ _ _ _)
  · exact .refl s

theorem calendarDayWork_same (s : State) : s.SameElsewhere s.calendarDayWork :=
  (recomputeToday_same s).trans (lapse_same _)

theorem keepRecords_same (s : State) (k : ExceptionRecord → Bool) : s.SameElsewhere (s.keepRecords k) := by
  unfold State.keepRecords
  split
  · exact .refl s
  · exact ((setCalendar_same s _).trans (recomputeToday_same _)).trans (raise_same _ _ _ _)

theorem addRecord_same {s t : State} {o : Origin} {x : ExceptionSpan × DayClass} (h : s.addRecord o x = .ok t) :
    s.SameElsewhere t := by
  unfold State.addRecord at h
  dsimp only at h
  repeat' split at h
  all_goals cases h
  exact ((setCalendar_same s _).trans (recomputeToday_same _)).trans (raise_same _ _ _ _)

/-! ## The work of a minute tick, a light event and SET_TIME (R31, R36, R37, R45, R69) -/

theorem tickSlot_same (s : State) (i : SlotNo) : s.SameElsewhere (s.tickSlot i) := by
  unfold State.tickSlot
  split
  · exact .refl s
  · split
    · dsimp only
      split
      · exact (setEntry_same s i _).trans (endClaim_same _ _)
      · exact setEntry_same s i _
    · exact .refl s

theorem expireSlot_same (b : Bool) (s : State) (i : SlotNo) : s.SameElsewhere (s.expireSlot b i) := by
  unfold State.expireSlot
  split
  · exact .refl s
  · split
    · split
      · exact setEntry_same s i _
      · split
        · exact setEntry_same s i _
        · exact .refl s
    · exact .refl s
    · split
      · exact (toEnded_same s i _ _).trans (raise_same _ _ _ _)
      · exact .refl s

theorem armSlot_same (s : State) (i : SlotNo) : s.SameElsewhere (s.armSlot i) := by
  unfold State.armSlot
  split
  · exact .refl s
  · split
    · exact setEntry_same s i _
    · exact .refl s

theorem expiryTest_same (s : State) (b : Bool) : s.SameElsewhere (s.expiryTest b) :=
  forEach_same allSlots _ (expireSlot_same b) s

theorem arming_same (s : State) : s.SameElsewhere s.arming := forEach_same allSlots _ armSlot_same s

theorem dayRollover_same (s : State) : s.SameElsewhere s.dayRollover := by
  unfold State.dayRollover
  dsimp only
  split
  · exact ((calendarDayWork_same s).trans (expiryTest_same _ _)).trans (arming_same _)
  · exact calendarDayWork_same s

theorem startSlot_same (s : State) (i : SlotNo) : s.SameElsewhere (s.startSlot i) := by
  unfold State.startSlot
  split
  · exact .refl s
  · split
    · exact start_same s i _
    · exact .refl s

theorem minuteEvaluation_same (s : State) : s.SameElsewhere s.minuteEvaluation := by
  have h := forEach_same allSlots _ tickSlot_same s
  unfold State.minuteEvaluation
  dsimp only
  generalize s.forEach allSlots State.tickSlot = u at h ⊢
  have h2 : s.SameElsewhere (if u.time.time.tod == ⟨0, 0⟩ then u.dayRollover else u) := by
    split
    · exact h.trans (dayRollover_same u)
    · exact h
  generalize (if u.time.time.tod == ⟨0, 0⟩ then u.dayRollover else u) = v at h2 ⊢
  split
  · exact h2.trans (forEach_same allSlots _ startSlot_same v)
  · exact h2

theorem lightEndSlot_same (ev : LightEvent) (s : State) (i : SlotNo) : s.SameElsewhere (s.lightEndSlot ev i) := by
  unfold State.lightEndSlot
  split
  · exact .refl s
  · split
    · exact endClaim_same s i
    · exact .refl s

theorem lightStartSlot_same (ev : LightEvent) (s : State) (i : SlotNo) : s.SameElsewhere (s.lightStartSlot ev i) := by
  unfold State.lightStartSlot
  split
  · exact .refl s
  · split
    · exact start_same s i _
    · exact .refl s

theorem lightEvent_same (s : State) (ev : LightEvent) : s.SameElsewhere (s.lightEvent ev) :=
  (forEach_same allSlots _ (lightEndSlot_same ev) s).trans (forEach_same allSlots _ (lightStartSlot_same ev) _)

theorem endPastSlot_same (s : State) (i : SlotNo) : s.SameElsewhere (s.endPastSlot i) := by
  unfold State.endPastSlot
  split
  · exact .refl s
  · split
    · split
      · exact endClaim_same s i
      · exact .refl s
    · exact .refl s

theorem setTimeSchedule_same (s : State) : s.SameElsewhere s.setTimeSchedule :=
  (((expiryTest_same s true).trans (arming_same _)).trans (forEach_same allSlots _ endPastSlot_same _)).trans
    (forEach_same allSlots _ catchUp_same _)

theorem countdownChannel_same (s : State) (c : Chan) : s.SameElsewhere (s.countdownChannel c) := by
  unfold State.countdownChannel
  dsimp only
  split
  · exact (setClaims_same s c _).trans (dropOverride_same _ _)
  · exact setClaims_same s c _

theorem countdownOverrides_same (s : State) : s.SameElsewhere s.countdownOverrides :=
  (forEach_same allChannels _ countdownChannel_same s).trans (retargetAll_same _ _)

theorem clearAll_same (s : State) : s.SameElsewhere s.clearAll :=
  ((((forEach_same allSlots _ retireOpen_same s).trans (keepRecords_same _ _)).trans (recomputeToday_same _)).trans
    (forEach_same allChannels _ dropOverride_same _)).trans (retargetAll_same _ _)

/-! ## Records by number -/

/-- A slot just written reads as written, and no other slot moves. -/
theorem slot_setSlot (s : State) (i j : SlotNo) (x : Slot) : (s.setSlot i x).slot j = if i = j then x else s.slot j := by
  simp only [State.slot, State.setSlot, State.setTable_table]
  by_cases h : i = j
  · subst h; simp
  · have : (i : Nat) ≠ j := fun e => h (Fin.ext e)
    simp [this, h]

/-- A channel just written reads as written, and no other channel moves. -/
theorem chan_setChan (s : State) (c d : Chan) (x : Channel) : (s.setChan c x).chan d = if c = d then x else s.chan d := by
  simp only [State.chan, State.setChan, State.setChannels_channels]
  by_cases h : c = d
  · subst h; simp
  · have : (c : Nat) ≠ d := fun e => h (Fin.ext e)
    simp [this, h]

/-- A button just written reads as written, and no other button moves. -/
theorem button_setButton (s : State) (b d : ButtonNo) (x : Button) :
    (s.setButton b x).button d = if b = d then x else s.button d := by
  simp only [State.button, State.setButton, State.setButtons_buttons]
  by_cases h : b = d
  · subst h; simp
  · have : (b : Nat) ≠ d := fun e => h (Fin.ext e)
    simp [this, h]

end Sys2Proof.Machine
end

