-- ==== Sys2Proof/Laws/PerInstr.lean ====
section
/-! SUPPORT. The family Framed: the request that a well-formed host command row stands for fits a request frame, and carries a code of
the catalogue unless it is the row UNKNOWN_COMMAND (R170, R176, R189). -/

namespace Sys2Proof.Laws.Framed

/-- A well-formed row that stands for a request has at most 60 parameter bytes, and its code is in the catalogue exactly if the row is
not UNKNOWN_COMMAND. -/
def Statement (i : Instr) : Prop :=
  i.wellFormed = true → ∀ c t p, i.request = some (c, t, p) →
    p.length ≤ Config.maxParams ∧ (catalogue.contains c.toNat = true ↔ i ≠ .unknownCommand c t p)

/-- The proof for a row of the catalogue. -/
theorem of_listed {i : Instr} {k tag : Byte} {q : List Byte} (hr : i.request = some (k, tag, q))
    (hw : i.wellFormed = true → paramsFit q = true) (hk : catalogue.contains k.toNat = true)
    (hn : ∀ c t p, i ≠ .unknownCommand c t p) : Statement i := by
  intro h c t p he
  rw [hr] at he
  cases he
  exact ⟨of_decide_eq_true (hw h), fun _ => hn _ _ _, fun _ => hk⟩

/-- The proof for an event row, which stands for no request. -/
theorem of_event {i : Instr} (hr : i.request = none) : Statement i := by
  intro _ c t p he
  rw [hr] at he
  cases he

theorem createEntry (tag : Byte) (params : List Byte) : Statement (.createEntry tag params) := of_listed rfl id (by decide) (by intros; simp)
theorem readEntry (tag : Byte) (params : List Byte) : Statement (.readEntry tag params) := of_listed rfl id (by decide) (by intros; simp)
theorem modifyEntry (tag : Byte) (params : List Byte) : Statement (.modifyEntry tag params) := of_listed rfl id (by decide) (by intros; simp)
theorem suspendEntry (tag : Byte) (params : List Byte) : Statement (.suspendEntry tag params) := of_listed rfl id (by decide) (by intros; simp)
theorem resumeEntry (tag : Byte) (params : List Byte) : Statement (.resumeEntry tag params) := of_listed rfl id (by decide) (by intros; simp)
theorem retireEntry (tag : Byte) (params : List Byte) : Statement (.retireEntry tag params) := of_listed rfl id (by decide) (by intros; simp)
theorem startEntry (tag : Byte) (params : List Byte) : Statement (.startEntry tag params) := of_listed rfl id (by decide) (by intros; simp)
theorem endEntry (tag : Byte) (params : List Byte) : Statement (.endEntry tag params) := of_listed rfl id (by decide) (by intros; simp)
theorem findEntries (tag : Byte) (params : List Byte) : Statement (.findEntries tag params) := of_listed rfl id (by decide) (by intros; simp)
theorem clearAll (tag : Byte) (params : List Byte) : Statement (.clearAll tag params) := of_listed rfl id (by decide) (by intros; simp)
theorem addException (tag : Byte) (params : List Byte) : Statement (.addException tag params) := of_listed rfl id (by decide) (by intros; simp)
theorem removeException (tag : Byte) (params : List Byte) : Statement (.removeException tag params) := of_listed rfl id (by decide) (by intros; simp)
theorem listExceptions (tag : Byte) (params : List Byte) : Statement (.listExceptions tag params) := of_listed rfl id (by decide) (by intros; simp)
theorem dayClass (tag : Byte) (params : List Byte) : Statement (.dayClass tag params) := of_listed rfl id (by decide) (by intros; simp)
theorem override (tag : Byte) (params : List Byte) : Statement (.override tag params) := of_listed rfl id (by decide) (by intros; simp)
theorem clearOverride (tag : Byte) (params : List Byte) : Statement (.clearOverride tag params) := of_listed rfl id (by decide) (by intros; simp)
theorem hold (tag : Byte) (params : List Byte) : Statement (.hold tag params) := of_listed rfl id (by decide) (by intros; simp)
theorem releaseHold (tag : Byte) (params : List Byte) : Statement (.releaseHold tag params) := of_listed rfl id (by decide) (by intros; simp)
theorem readChannel (tag : Byte) (params : List Byte) : Statement (.readChannel tag params) := of_listed rfl id (by decide) (by intros; simp)
theorem configureChannel (tag : Byte) (params : List Byte) : Statement (.configureChannel tag params) := of_listed rfl id (by decide) (by intros; simp)
theorem setStagger (tag : Byte) (params : List Byte) : Statement (.setStagger tag params) := of_listed rfl id (by decide) (by intros; simp)
theorem configureButton (tag : Byte) (params : List Byte) : Statement (.configureButton tag params) := of_listed rfl id (by decide) (by intros; simp)
theorem readButton (tag : Byte) (params : List Byte) : Statement (.readButton tag params) := of_listed rfl id (by decide) (by intros; simp)
theorem setLightLimits (tag : Byte) (params : List Byte) : Statement (.setLightLimits tag params) := of_listed rfl id (by decide) (by intros; simp)
theorem readLight (tag : Byte) (params : List Byte) : Statement (.readLight tag params) := of_listed rfl id (by decide) (by intros; simp)
theorem setTime (tag : Byte) (params : List Byte) : Statement (.setTime tag params) := of_listed rfl id (by decide) (by intros; simp)
theorem readTime (tag : Byte) (params : List Byte) : Statement (.readTime tag params) := of_listed rfl id (by decide) (by intros; simp)
theorem setTimeSource (tag : Byte) (params : List Byte) : Statement (.setTimeSource tag params) := of_listed rfl id (by decide) (by intros; simp)
theorem setLineConfirm (tag : Byte) (params : List Byte) : Statement (.setLineConfirm tag params) := of_listed rfl id (by decide) (by intros; simp)
theorem readLine (tag : Byte) (params : List Byte) : Statement (.readLine tag params) := of_listed rfl id (by decide) (by intros; simp)
theorem setSupply (tag : Byte) (params : List Byte) : Statement (.setSupply tag params) := of_listed rfl id (by decide) (by intros; simp)
theorem readSupply (tag : Byte) (params : List Byte) : Statement (.readSupply tag params) := of_listed rfl id (by decide) (by intros; simp)
theorem readStore (tag : Byte) (params : List Byte) : Statement (.readStore tag params) := of_listed rfl id (by decide) (by intros; simp)
theorem programStore (tag : Byte) (params : List Byte) : Statement (.programStore tag params) := of_listed rfl id (by decide) (by intros; simp)
theorem loadDefaults (tag : Byte) (params : List Byte) : Statement (.loadDefaults tag params) := of_listed rfl id (by decide) (by intros; simp)
theorem loadStatus (tag : Byte) (params : List Byte) : Statement (.loadStatus tag params) := of_listed rfl id (by decide) (by intros; simp)
theorem readChanges (tag : Byte) (params : List Byte) : Statement (.readChanges tag params) := of_listed rfl id (by decide) (by intros; simp)
theorem setNoticeMask (tag : Byte) (params : List Byte) : Statement (.setNoticeMask tag params) := of_listed rfl id (by decide) (by intros; simp)
theorem identify (tag : Byte) (params : List Byte) : Statement (.identify tag params) := of_listed rfl id (by decide) (by intros; simp)
theorem unknownCommand (cmd tag : Byte) (params : List Byte) : Statement (.unknownCommand cmd tag params) := by
  intro h c t p he
  simp only [Instr.wellFormed, Bool.and_eq_true] at h
  cases he
  refine ⟨of_decide_eq_true h.1, fun hc => ?_, fun hn => absurd rfl hn⟩
  rw [hc] at h
  exact absurd h.2 (by decide)
theorem transactionStart (dt : Nat) : Statement (.transactionStart dt) := of_event rfl
theorem statusByteShifted (dt : Nat) : Statement (.statusByteShifted dt) := of_event rfl
theorem replyLatch (dt : Nat) : Statement (.replyLatch dt) := of_event rfl
theorem requestFrame (dt : Nat) (bytes : List Byte) (oddBits : Nat) : Statement (.requestFrame dt bytes oddBits) := of_event rfl
theorem replyReadEnd (dt : Nat) (shifted : Nat) : Statement (.replyReadEnd dt shifted) := of_event rfl
theorem portReset (dt : Nat) : Statement (.portReset dt) := of_event rfl
theorem portResetRelease (dt : Nat) : Statement (.portResetRelease dt) := of_event rfl
theorem programByteDone (dt : Nat) : Statement (.programByteDone dt) := of_event rfl
theorem enterBackup (dt : Nat) : Statement (.enterBackup dt) := of_event rfl
theorem mainsReturn (dt : Nat) : Statement (.mainsReturn dt) := of_event rfl
theorem restoreCountdownExpiry (dt : Nat) : Statement (.restoreCountdownExpiry dt) := of_event rfl
theorem retainedSupplyLoss (dt : Nat) : Statement (.retainedSupplyLoss dt) := of_event rfl
theorem powerUp (vmainUp : Bool) (crystalRuns : Bool) : Statement (.powerUp vmainUp crystalRuns) := of_event rfl
theorem secondBoundary (dt : Nat) : Statement (.secondBoundary dt) := of_event rfl
theorem minuteEvaluation (dt : Nat) : Statement (.minuteEvaluation dt) := of_event rfl
theorem overrideCountdown (dt : Nat) : Statement (.overrideCountdown dt) := of_event rfl
theorem risingCrossing (dt : Nat) : Statement (.risingCrossing dt) := of_event rfl
theorem fallingCrossing (dt : Nat) : Statement (.fallingCrossing dt) := of_event rfl
theorem absenceTimeout (dt : Nat) : Statement (.absenceTimeout dt) := of_event rfl
theorem crystalStop (dt : Nat) : Statement (.crystalStop dt) := of_event rfl
theorem crystalRun (dt : Nat) : Statement (.crystalRun dt) := of_event rfl
theorem crystalTick (dt : Nat) : Statement (.crystalTick dt) := of_event rfl
theorem coilAction (dt : Nat) (c : Chan) : Statement (.coilAction dt c) := of_event rfl
theorem pulseStart (dt : Nat) (c : Chan) : Statement (.pulseStart dt c) := of_event rfl
theorem operationComplete (dt : Nat) (c : Chan) : Statement (.operationComplete dt c) := of_event rfl
theorem buttonInputLow (dt : Nat) (b : ButtonNo) : Statement (.buttonInputLow dt b) := of_event rfl
theorem buttonInputHigh (dt : Nat) (b : ButtonNo) : Statement (.buttonInputHigh dt b) := of_event rfl
theorem buttonDebounceExpiry (dt : Nat) (b : ButtonNo) : Statement (.buttonDebounceExpiry dt b) := of_event rfl
theorem buttonReleaseConfirm (dt : Nat) (b : ButtonNo) : Statement (.buttonReleaseConfirm dt b) := of_event rfl
theorem longPress (dt : Nat) (b : ButtonNo) : Statement (.longPress dt b) := of_event rfl
theorem luxSample (dt : Nat) (value : Nat) : Statement (.luxSample dt value) := of_event rfl
theorem loadStep (dt : Nat) : Statement (.loadStep dt) := of_event rfl
theorem restoreCountdownSecond (dt : Nat) : Statement (.restoreCountdownSecond dt) := of_event rfl

end Sys2Proof.Laws.Framed
end

