-- ==== Sys2Proof/Laws/Port.lean ====
section
/-! SUPPORT. What a request does on a port that takes it at once, and what the commands of the catalogue leave alone. -/

namespace Sys2Proof.Machine

/-- Putting the port back as it stands changes nothing. -/
theorem setPort_self (s : State) : s.setPort s.port = s := rfl

/-- A ready port takes a request that fits a frame at the instant it arrives, and hands it to its block (R170, R176). -/
theorem submit_ready {s : State} (h : s.Ready) (cmd tag : Byte) {p : List Byte} (hp : p.length ≤ Config.maxParams) :
    s.submit cmd tag p = s.execute ⟨cmd, tag, p⟩ := by
  obtain ⟨ha, hb, he, hr⟩ := h
  have hport : ({ s.port with requests := [] } : HostPort) = s.port := by
    rw [← he]
  have hs : s.setPort { s.port with requests := [] } = s := by rw [hport]; rfl
  simp only [State.submit, ha, he, hp, if_true, List.length_nil, true_and, State.accept, List.nil_append, State.executor,
    State.setPort_port, List.length_singleton, State.takeRequests]
  have hq : (0 : Nat) < Config.queuePlaces := by decide
  rw [if_pos hq]
  have hfree : (s.setPort { s.port with requests := [⟨cmd, tag, p⟩] }).executorFree = true := by
    have : s.portActive = true := ha
    simp only [State.portActive] at this
    simp [State.executorFree, State.portActive, this, hb, hr]
  rw [if_pos hfree]
  have : (s.setPort { s.port with requests := [⟨cmd, tag, p⟩] }).setPort
      { (s.setPort { s.port with requests := [⟨cmd, tag, p⟩] }).port with requests := [] } = s := hs
  simpa using congrArg (fun u => State.execute u ⟨cmd, tag, p⟩) this

/-- A request whose block takes it is answered at once (R176). -/
theorem submit_taken {s t : State} {cmd tag : Byte} {p payload : List Byte} (h : s.Ready)
    (hp : p.length ≤ Config.maxParams) (hc : cmd ≠ 0x69) (hr : runCommand cmd p s = .ok (t, payload)) :
    s.submit cmd tag p = t.pushReply ⟨tag, cmd, takenResult cmd, payload⟩ := by
  rw [submit_ready h cmd tag hp, State.execute, if_neg hc]
  simp [State.answer, hr]

/-- A request whose block refuses it is answered by the refusal alone (R180). -/
theorem submit_refused {s : State} {cmd tag : Byte} {p : List Byte} {r : Result} (h : s.Ready)
    (hp : p.length ≤ Config.maxParams) (hc : cmd ≠ 0x69) (hr : runCommand cmd p s = .error r) :
    s.submit cmd tag p = s.refusedWith cmd tag r := by
  rw [submit_ready h cmd tag hp, State.execute, if_neg hc]
  simp [State.answer, hr, State.refusedWith]

/-! ## The refusal checks -/

@[simp] theorem check_true (r : Result) (go : Answer) : check true r go = go := rfl
@[simp] theorem check_false (r : Result) (go : Answer) : check false r go = .error r := rfl

/-- A command that passes a check was taken behind it. -/
theorem check_ok {ok : Bool} {r : Result} {go : Answer} {x : State × List Byte} (h : check ok r go = .ok x) :
    ok = true ∧ go = .ok x := by
  cases ok <;> simp_all

/-! ## What the commands of the schedule blocks leave alone -/

theorem withHandle_ok {s : State} {slot gen : Byte} {go : SlotNo → Entry → Answer} {x : State × List Byte}
    (h : s.withHandle slot gen go = .ok x) :
    ∃ i e, readSlotNo slot = some i ∧ (s.slot i).entry = some e ∧ (s.slot i).generation = gen ∧ go i e = .ok x := by
  unfold State.withHandle at h
  repeat' split at h
  all_goals first | cases h | exact ⟨_, _, ‹_›, ‹_›, ‹_›, h⟩

theorem handleCommand_ok {p : List Byte} {s : State} {go : SlotNo → Entry → Answer} {x : State × List Byte}
    (h : handleCommand p s go = .ok x) : ∃ i e, (s.slot i).entry = some e ∧ go i e = .ok x := by
  obtain ⟨-, h⟩ := check_ok h
  split at h
  · obtain ⟨i, e, -, he, -, hg⟩ := withHandle_ok h
    exact ⟨i, e, he, hg⟩
  · cases h

theorem chooseSlot_same {s t : State} {i : SlotNo} (h : s.chooseSlot = some (i, t)) : s.SameElsewhere t := by
  unfold State.chooseSlot at h
  split at h
  · cases h; exact .refl s
  · split at h
    · cases h; exact (clearSlot_same s _).trans (raise_same _ _ _ _)
    · cases h

theorem makeEntry_same {s t : State} {o : Origin} {b : EntryBody} {i : SlotNo} (h : s.makeEntry o b = .ok (i, t)) :
    s.SameElsewhere t := by
  unfold State.makeEntry at h
  dsimp only at h
  split at h
  · cases h
  · split at h
    · cases h
    · rename_i hc
      cases h
      exact (((chooseSlot_same hc).trans (setEntry_same _ _ _)).trans (raise_same _ _ _ _)).trans (catchUp_same _ _)

theorem dropClaims_same (s : State) (i : SlotNo) (e : Entry) : s.SameElsewhere (s.dropClaims i e) := by
  unfold State.dropClaims
  split
  · exact (removeClaims_same s i _).trans (raise_same _ _ _ _)
  · exact .refl s

theorem cmdCreateEntry_same {p q : List Byte} {s t : State} (h : cmdCreateEntry p s = .ok (t, q)) : s.SameElsewhere t := by
  obtain ⟨-, h⟩ := check_ok h
  obtain ⟨-, h⟩ := check_ok h
  split at h
  · cases h
  · split at h
    · cases h
    · rename_i hm; cases h; exact makeEntry_same hm

theorem cmdModifyEntry_same {p q : List Byte} {s t : State} (h : cmdModifyEntry p s = .ok (t, q)) : s.SameElsewhere t := by
  obtain ⟨-, h⟩ := check_ok h
  split at h
  · obtain ⟨-, h⟩ := check_ok h
    obtain ⟨i, e, -, -, -, h⟩ := withHandle_ok h
    split at h
    · cases h
    · obtain ⟨-, h⟩ := check_ok h
      obtain ⟨-, h⟩ := check_ok h
      cases h
      exact (((dropClaims_same s i e).trans (setEntry_same _ _ _)).trans (raise_same _ _ _ _)).trans (catchUp_same _ _)
  · cases h

theorem cmdSuspendEntry_same {p q : List Byte} {s t : State} (h : cmdSuspendEntry p s = .ok (t, q)) : s.SameElsewhere t := by
  obtain ⟨i, e, -, h⟩ := handleCommand_ok h
  obtain ⟨-, h⟩ := check_ok h
  cases h
  refine (dropClaims_same s i e).trans (.trans ?_ (raise_same _ _ _ _))
  split
  · exact (toEnded_same _ _ _ _).trans (raise_same _ _ _ _)
  · exact setEntry_same _ _ _

theorem cmdResumeEntry_same {p q : List Byte} {s t : State} (h : cmdResumeEntry p s = .ok (t, q)) : s.SameElsewhere t := by
  obtain ⟨i, e, -, h⟩ := handleCommand_ok h
  obtain ⟨-, h⟩ := check_ok h
  cases h
  refine State.SameElsewhere.trans ?_ ((raise_same _ _ _ _).trans (catchUp_same _ _))
  split
  · exact (toEnded_same _ _ _ _).trans (raise_same _ _ _ _)
  · exact setEntry_same _ _ _
  · exact setEntry_same _ _ _

theorem cmdRetireEntry_same {p q : List Byte} {s t : State} (h : cmdRetireEntry p s = .ok (t, q)) : s.SameElsewhere t := by
  obtain ⟨i, e, -, h⟩ := handleCommand_ok h
  cases h
  exact retire_same s i

theorem cmdStartEntry_same {p q : List Byte} {s t : State} (h : cmdStartEntry p s = .ok (t, q)) : s.SameElsewhere t := by
  obtain ⟨i, e, -, h⟩ := handleCommand_ok h
  obtain ⟨-, h⟩ := check_ok h
  cases h
  exact start_same s i _

theorem cmdEndEntry_same {p q : List Byte} {s t : State} (h : cmdEndEntry p s = .ok (t, q)) : s.SameElsewhere t := by
  obtain ⟨i, e, -, h⟩ := handleCommand_ok h
  obtain ⟨-, h⟩ := check_ok h
  cases h
  exact endClaim_same s i

theorem cmdClearAll_same {p q : List Byte} {s t : State} (h : cmdClearAll p s = .ok (t, q)) : s.SameElsewhere t := by
  obtain ⟨-, h⟩ := check_ok h
  obtain ⟨-, h⟩ := check_ok h
  simp only [Except.ok.injEq, Prod.mk.injEq] at h
  rw [← h.1]
  exact clearAll_same s

theorem addExceptionItem_same {p : List Byte} {o : Origin} {s t : State} (h : addExceptionItem o p s = .ok t) :
    s.SameElsewhere t := by
  unfold addExceptionItem at h
  repeat' split at h
  all_goals first | exact addRecord_same h | cases h

theorem cmdAddException_same {p q : List Byte} {s t : State} (h : cmdAddException p s = .ok (t, q)) : s.SameElsewhere t := by
  obtain ⟨-, h⟩ := check_ok h
  split at h
  · rename_i ha; cases h; exact addExceptionItem_same ha
  · cases h

theorem cmdRemoveException_same {p q : List Byte} {s t : State} (h : cmdRemoveException p s = .ok (t, q)) :
    s.SameElsewhere t := by
  obtain ⟨-, h⟩ := check_ok h
  split at h
  · split at h
    · obtain ⟨-, h⟩ := check_ok h
      cases h
      exact keepRecords_same s _
    · cases h
  · cases h

theorem cmdOverride_same {p q : List Byte} {s t : State} (h : cmdOverride p s = .ok (t, q)) : s.SameElsewhere t := by
  unfold cmdOverride at h
  split at h
  · split at h
    · obtain ⟨-, h⟩ := check_ok h
      cases h
      exact (forEach_same _ _ (fun s c => putOverride_same s c _ _ _) s).trans (retargetAll_same _ _)
    · cases h
  · cases h

theorem cmdClearOverride_same {p q : List Byte} {s t : State} (h : cmdClearOverride p s = .ok (t, q)) : s.SameElsewhere t := by
  unfold cmdClearOverride at h
  split at h
  · obtain ⟨-, h⟩ := check_ok h
    cases h
    exact (forEach_same _ _ dropOverride_same s).trans (retargetAll_same _ _)
  · cases h

theorem cmdHold_same {p q : List Byte} {s t : State} (h : cmdHold p s = .ok (t, q)) : s.SameElsewhere t := by
  unfold cmdHold at h
  split at h
  · split at h
    · obtain ⟨-, h⟩ := check_ok h
      cases h
      exact (forEach_same _ _ (fun s c => putHold_same s c _) s).trans (retargetAll_same _ _)
    · cases h
  · cases h

theorem cmdReleaseHold_same {p q : List Byte} {s t : State} (h : cmdReleaseHold p s = .ok (t, q)) : s.SameElsewhere t := by
  unfold cmdReleaseHold at h
  split at h
  · obtain ⟨-, h⟩ := check_ok h
    cases h
    exact (forEach_same _ _ dropHold_same s).trans (retargetAll_same _ _)
  · cases h

end Sys2Proof.Machine
end

