-- ==== Sys2Proof/Laws/Store.lean ====
section
/-! SUPPORT. What the walk of the item chain accepts. -/

namespace Sys2Proof.Machine

theorem readCells_length (array : List Host.Cell) (offset count : Nat) : (readCells array offset count).length = count := by
  simp [readCells]

theorem readCells_add (array : List Host.Cell) (offset m n : Nat) :
    readCells array offset (m + n) = readCells array offset m ++ readCells array (offset + m) n := by
  simp [readCells, List.range_add, List.map_map, Function.comp_def, Nat.add_assoc]

/-- The two bytes at the head of an item, then its body. -/
theorem readCells_item (array : List Host.Cell) (offset n : Nat) :
    readCells array offset (2 + n) =
      [readCell array offset, readCell array (offset + 1)] ++ readCells array (offset + 2) n := by
  rw [readCells_add]; rfl

theorem itemBytes_length (x : Byte × List Byte) : (itemBytes x).length = 2 + x.2.length := by
  simp [itemBytes]; omega

/-- The walk passes exactly when the bytes up to `finish` are as many items as it was asked for, none with a length byte of 0xFF
(R159, R192). -/
theorem chainOk_iff (array : List Host.Cell) (finish items offset : Nat) (h : offset ≤ finish) :
    chainOk array finish items offset = true ↔
      ∃ l : List (Byte × List Byte), l.length = items ∧ (∀ x ∈ l, x.2.length < 255) ∧
        l.flatMap itemBytes = readCells array offset (finish - offset) := by
  induction items generalizing offset with
  | zero =>
    have hlen := readCells_length array offset (finish - offset)
    simp only [chainOk, beq_iff_eq, List.length_eq_zero_iff]
    constructor
    · rintro rfl; exact ⟨[], rfl, by simp, by simp [readCells]⟩
    · rintro ⟨l, rfl, -, hl⟩
      rw [← hl] at hlen; simp at hlen; omega
  | succ items ih =>
    have byte_lt (b : Byte) : b.toNat < 256 := b.isLt
    simp only [chainOk]
    split
    · rename_i hc
      simp only [Bool.and_eq_true, bne_iff_ne, decide_eq_true_eq] at hc
      obtain ⟨⟨hff, -⟩, hn⟩ := hc
      have hlt : (readCell array (offset + 1)).toNat < 255 := by
        have := byte_lt (readCell array (offset + 1))
        have hne : (readCell array (offset + 1)).toNat ≠ 255 := fun e =>
          hff (BitVec.eq_of_toNat_eq (by rw [e]; rfl))
        omega
      set n := (readCell array (offset + 1)).toNat with hnd
      have hsplit : readCells array offset (finish - offset) =
          itemBytes (readCell array offset, readCells array (offset + 2) n) ++
            readCells array (offset + 2 + n) (finish - (offset + 2 + n)) := by
        rw [show finish - offset = (2 + n) + (finish - (offset + 2 + n)) by omega, readCells_add, readCells_item]
        have hb : byteOf n = readCell array (offset + 1) := by
          apply BitVec.eq_of_toNat_eq; simp [byteOf, hnd]
        simp [itemBytes, readCells_length, hb, Nat.add_assoc]
      rw [ih _ hn]
      constructor
      · rintro ⟨l, hl, hs, he⟩
        refine ⟨(readCell array offset, readCells array (offset + 2) n) :: l, by simp [hl], ?_, ?_⟩
        · intro x hx
          obtain rfl | hx := List.mem_cons.mp hx
          · simpa [readCells_length] using hlt
          · exact hs x hx
        · rw [List.flatMap_cons, he, hsplit]
      · rintro ⟨l, hl, hs, he⟩
        obtain _ | ⟨x, l⟩ := l
        · simp at hl
        · have hx := hs x (by simp)
          rw [List.flatMap_cons, hsplit] at he
          have hb := congrArg (fun y => y.getD 1 0) he
          have hxn : x.2.length = n := by
            have h1 : byteOf x.2.length = byteOf n := by simpa [itemBytes, readCells_length] using hb
            have h2 := congrArg BitVec.toNat h1
            simp only [byteOf, BitVec.toNat_ofNat] at h2
            rw [Nat.mod_eq_of_lt (by omega), Nat.mod_eq_of_lt (by omega)] at h2
            exact h2
          have := List.append_inj he (by simp [itemBytes_length, readCells_length, hxn])
          exact ⟨l, by simpa using hl, fun y hy => hs y (by simp [hy]), this.2⟩
    · rename_i hc
      simp only [Bool.false_eq_true, false_iff]
      rintro ⟨l, hl, hs, he⟩
      apply hc
      obtain _ | ⟨x, l⟩ := l
      · simp at hl
      · have hx := hs x (by simp)
        have hlen := congrArg List.length he
        rw [List.flatMap_cons, List.length_append, itemBytes_length, readCells_length] at hlen
        have hb := congrArg (fun y => y.getD 1 0) he
        rw [show finish - offset = 2 + (finish - offset - 2) by omega, readCells_item] at hb
        have hbyte : byteOf x.2.length = readCell array (offset + 1) := by simpa [itemBytes] using hb
        have hnat : (readCell array (offset + 1)).toNat = x.2.length := by
          rw [← hbyte]; simp only [byteOf, BitVec.toNat_ofNat]; omega
        simp only [Bool.and_eq_true, bne_iff_ne, decide_eq_true_eq]
        refine ⟨⟨fun e => ?_, by omega⟩, by omega⟩
        rw [e] at hnat
        have : (Config.erasedByte).toNat = 255 := rfl
        omega

/-- The test of CHAIN is the chain of items that the header counts (R159, R192). -/
theorem chainOk_iff_itemChain (array : List Host.Cell) (h : StoreHeader) :
    chainOk array (16 + h.length) h.items 16 = true ↔ ItemChain array h := by
  rw [chainOk_iff _ _ _ _ (by omega), Nat.add_sub_cancel_left]; rfl

end Sys2Proof.Machine
end

