-- ==== Sys2Proof/Tests/Slice0.lean ====
section
/-! SUPPORT. Tests. Each expected value is from the spec: a worked example of a chapter, a table, or a calculation by hand from a rule. After
the tests stand the witnesses: for each statement with hypotheses, a state and operands that meet them. -/

namespace Sys2Proof.Tests

-- One theorem after another: each starts the kernel, and many at once take more memory than the check allows.
set_option Elab.async false

open Sys2Proof Sys2Proof.Machine

/-! ## Helpers -/

/-- The state that a command or event leads to. -/
def after (i : Instr) (s : State) : State :=
  match exec i s with
  | .next t => t
  | _ => s

/-- The RESULT and payload of the newest reply. -/
def answer (s : State) : Option (Result × List Byte) := s.port.replies.getLast?.map fun r => (r.result, r.payload)

/-- Reset, with time VALID at a calendar time. -/
def atTime (t : CalTime) : State := State.reset.setTimeBase { State.reset.time with time := t, validity := .valid }

/-- Reset, in RUN. -/
def running : State := State.reset.setSupply { State.reset.supply with state := .run, countdown := none }

/-- Reset, in BACKUP with the port quiet. -/
def backedUp : State := State.reset.setSupply { State.reset.supply with state := .backup, countdown := none }

/-- A plain entry body. -/
def body (channels : Word) (trigger : StartTrigger) (ending : EntryEnd) : EntryBody where
  channels := channels
  action := true
  priority := 4
  trigger := trigger
  windowEarliest := none
  windowLatest := none
  startFallback := none
  weekdays := 127
  classes := 1
  ending := ending
  endFallback := none
  validFrom := none
  validUntil := none
  count := none
  catchUp := false

/-- The half-past-six entry of the examples, on CH2 and CH3. -/
def evening : EntryBody := body 0x000C (.atTime 30 (some 18) none none) (.atTime ⟨23, 0⟩)

/-- An entry with that body in a state. -/
def entry (st : EntryState) : Entry := ⟨.host, evening, st, 0, 0, none⟩

/-- A state with one entry, in slot 5 at generation 2. -/
def holding (e : Entry) (s : State) : State := s.setSlot 5 ⟨2, some e⟩

/-- The claim state of the example of Chapter 1. -/
def claim : ClaimState := ⟨⟨⟨2031, 3, 10⟩, ⟨18, 30⟩⟩, some ⟨⟨2031, 3, 10⟩, ⟨23, 0⟩⟩, none, none, 1440⟩

/-- A channel of a kind and switch state, its target ON. -/
def relay (kind : ChannelKind) (sw : SwitchState) : Channel :=
  { Channel.cold with config := ⟨kind, true, true, 80, 50, 2, 0⟩, target := true, switch := sw }

/-- An operation toward ON that is due at cycle 0. -/
def operation (pin : DrivePin) (acted : Bool) : Operation := ⟨true, true, 0, 0, pin, acted⟩

/-- The state with button 1 in a press state, on CH5 to CH7, its ending AFTER(60). -/
def pressing (p : PressState) (low : Bool) (s : State) : State :=
  s.setButton 1 { Button.cold low with channels := 0x00E0, ending := .after 60, enabled := true, press := p }

/-- The state with the Light Monitor as given. -/
def lit (st : LightState) (confirm faults : Nat) : State :=
  (State.reset.setClocks 32768 32768).setLight
    { State.reset.light with state := st, confirm := confirm, faults := faults, confirmCount := 5, side := .dark }

/-- The state with a transaction in progress. -/
def clocking (latched : Option Latched) (s : State) : State :=
  s.setPort { s.port with csnLow := true, transaction := some ⟨s.portStatus, latched⟩ }

/-! ## Well-formedness -/

theorem test_rejects_61_parameters : (Instr.identify 0 (List.replicate 61 0)).wellFormed = false := by decide
theorem test_accepts_60_parameters : (Instr.identify 0 (List.replicate 60 0)).wellFormed = true := by decide
theorem test_rejects_known_code_as_unknown : (Instr.unknownCommand 0x72 0 []).wellFormed = false := by decide
theorem test_accepts_unknown_code : (Instr.unknownCommand 0x73 0 []).wellFormed = true := by decide
theorem test_rejects_eight_odd_bits : (Instr.requestFrame 0 [0x3C] 8).wellFormed = false := by decide
theorem test_rejects_reply_read_as_request : (Instr.requestFrame 0 [0xC3, 0] 0).wellFormed = false := by decide
theorem test_rejects_eleven_bit_sample : (Instr.luxSample 0 1024).wellFormed = false := by decide

/-- No row has bits (log 18). -/
theorem test_no_word_spells_a_command : decodeTableWord 16 0x1234 = none := by decide

/-! ## The Schedule Table (worked examples of Chapters 1 and 2) -/

/-- CREATE_ENTRY on 2031-03-09 14:12 with valid-from the day after: slot 0, generation 0, WAITING. -/
theorem test_create_waiting :
    answer (after (.createEntry 1 (writeBody { evening with validFrom := some ⟨2031, 3, 10⟩ }))
      (atTime ⟨⟨2031, 3, 9⟩, ⟨14, 12⟩, 0⟩)) = some (.ok, [0, 0, 1]) := by decide +kernel

/-- A body of 15 bytes whose presence byte declares nothing is BAD_LENGTH (R12, R191). -/
theorem test_create_bad_length :
    answer (after (.createEntry 1 (writeBody evening ++ [0])) State.reset) = some (.badLength, []) := by decide +kernel

theorem test_modify_ended_is_wrong_state :
    answer (after (.modifyEntry 1 ([5, 2] ++ writeBody evening))
      (holding (entry (.ended .spent ⟨⟨2031, 3, 12⟩, ⟨21, 0⟩⟩)) State.reset)) = some (.wrongState, []) := by decide +kernel

/-- READ_ENTRY with the generation of before the reclaim is STALE_HANDLE. -/
theorem test_read_stale : answer (after (.readEntry 1 [5, 1]) (holding (entry .armed) State.reset)) = some (.staleHandle, []) := by
  decide +kernel

/-- SUSPEND_ENTRY on the last occurrence ends the entry as SPENT. -/
theorem test_suspend_last_occurrence :
    (after (.suspendEntry 1 [5, 2]) (holding { entry (.active claim false) with body := { evening with count := some 0 } }
      (atTime ⟨⟨2031, 3, 12⟩, ⟨21, 0⟩, 0⟩))).table.endedOrder = [5] := by decide +kernel

theorem test_resume_expired :
    answer (after (.resumeEntry 1 [5, 2]) (holding
      { entry .suspended with body := { evening with validUntil := some ⟨2031, 3, 12⟩ } }
      (atTime ⟨⟨2031, 3, 13⟩, ⟨0, 0⟩, 0⟩))) = some (.ok, [5]) := by decide +kernel

theorem test_retire_advances_generation :
    (after (.retireEntry 1 [5, 2]) (holding (entry .armed) State.reset)).slot 5 = ⟨3, none⟩ := by decide +kernel

/-- A start that needs two records with one free is refused whole: MISSED. -/
theorem test_start_missed :
    answer (after (.startEntry 1 [5, 2]) ((holding (entry .armed) State.reset).setFreeCount 1)) = some (.ok, [1]) := by decide +kernel

/-- The start draws two records and places its claims with the priority of the entry. -/
theorem test_start_places :
    (((after (.startEntry 1 [5, 2]) (holding (entry .armed) State.reset)).chan 3).claims.map Claim.priority,
      (after (.startEntry 1 [5, 2]) (holding (entry .armed) State.reset)).freeCount) = ([4], 190) := by decide +kernel

theorem test_end_returns_to_armed :
    answer (after (.endEntry 1 [5, 2]) (holding (entry (.active claim false)) State.reset)) = some (.ok, [2]) := by decide +kernel

theorem test_find_one :
    answer (after (.findEntries 1 [3, 0x02, 0, 0]) (holding (entry .armed) State.reset)) = some (.ok, [1, 5, 2, 2, 128]) := by
  decide +kernel

theorem test_clear_all : (after (.clearAll 1 []) (holding (entry .armed) State.reset)).slot 5 = ⟨3, none⟩ := by decide +kernel

/-- The catch-up example: at 2031-06-04 20:17:09 the 18:30 entry starts, with its end at 23:00. -/
theorem test_catch_up :
    ((((holding { entry .armed with body := { evening with catchUp := true } }
      (atTime ⟨⟨2031, 6, 4⟩, ⟨20, 17⟩, 9⟩)).catchUp 5).slot 5).entry.bind fun e => e.state.claim?.bind (·.endInstant)) =
      some ⟨⟨2031, 6, 4⟩, ⟨23, 0⟩⟩ := by decide +kernel

/-- At 2031-06-07 19:00, a Saturday, the last 24 hours hold no eligible match. -/
theorem test_catch_up_not_eligible :
    ((((holding { entry .armed with body := { evening with catchUp := true, weekdays := 31 } }
      (atTime ⟨⟨2031, 6, 7⟩, ⟨19, 0⟩, 0⟩)).catchUp 5).slot 5).entry.map fun e => e.state) = some .armed := by decide +kernel

/-! ## The Exception Calendar (worked example of Chapter 3) -/

/-- The arcade's calendar on 2031-12-20. -/
def arcade : State :=
  ((atTime ⟨⟨2031, 12, 20⟩, ⟨10, 5⟩, 0⟩).setCalendar ⟨[⟨.dated ⟨2031, 12, 18⟩ ⟨2031, 12, 23⟩, .x3, .host⟩,
    ⟨.dated ⟨2031, 12, 26⟩ ⟨2031, 12, 26⟩, .x2, .host⟩, ⟨.annual ⟨1, 1⟩ ⟨1, 1⟩, .x2, .host⟩,
    ⟨.annual ⟨12, 24⟩ ⟨12, 31⟩, .x1, .host⟩], .x3⟩)

/-- Class X2, source DATED, first day 2031-12-26. -/
theorem test_day_class : answer (after (.dayClass 1 [31, 12, 26]) arcade) = some (.ok, [2, 0, 31, 12, 26]) := by decide +kernel

theorem test_add_overlap :
    answer (after (.addException 1 [0x81, 0xFF, 12, 20, 0xFF, 1, 2]) arcade) = some (.overlap, []) := by decide +kernel

/-- Five records, today's class X3. -/
theorem test_add_beside_annual :
    answer (after (.addException 1 [3, 31, 12, 27, 31, 12, 28]) arcade) = some (.ok, [5, 3]) := by decide +kernel

theorem test_remove_first_day : answer (after (.removeException 1 [0, 31, 12, 18]) arcade) = some (.ok, [3, 0]) := by decide +kernel

theorem test_list_from_3 :
    answer (after (.listExceptions 1 [3]) arcade) = some (.ok, [1, 4, 3, 0x81, 0xFF, 12, 24, 0xFF, 12, 31, 4]) := by decide +kernel

/-- 2031-12-24: class X1, and the record that ended on 2031-12-23 lapses. -/
theorem test_day_rollover_lapses :
    ((arcade.setTimeBase { arcade.time with time := ⟨⟨2031, 12, 24⟩, ⟨0, 0⟩, 0⟩ }).calendarDayWork.calendar.records.length,
      (arcade.setTimeBase { arcade.time with time := ⟨⟨2031, 12, 24⟩, ⟨0, 0⟩, 0⟩ }).calendarDayWork.calendar.todayClass) =
      (3, .x1) := by decide +kernel

/-! ## The Claim Manager (worked example of Chapter 4) -/

/-- OVERRIDE CH5 OFF UNTIL_NEXT over an ON target: the reply carries CH5. -/
theorem test_override_changes_target :
    answer (after (.override 1 [0, 0x20, 0, 1, 0, 0]) (State.reset.setChan 5
      { Channel.cold with claims := [⟨.schedule 2 0 4, true, State.reset.now⟩], target := true })) = some (.ok, [0, 0x20]) := by
  decide +kernel

/-- An override beneath a hold changes no target. -/
theorem test_override_under_hold :
    answer (after (.override 1 [0, 0x20, 1, 0, 0, 30]) (State.reset.setChan 5
      { Channel.cold with claims := [⟨.hold, false, State.reset.now⟩] })) = some (.ok, [0, 0]) := by decide +kernel

theorem test_clear_override_none : answer (after (.clearOverride 1 [0, 0x20]) State.reset) = some (.ok, [0, 0]) := by decide +kernel

theorem test_hold_changes_target : answer (after (.hold 1 [0, 0x20, 1]) State.reset) = some (.ok, [0, 0x20]) := by decide +kernel

/-- RELEASE_HOLD CH5 uncovers an ON claim: CH5 in both sets. -/
theorem test_release_hold :
    answer (after (.releaseHold 1 [0, 0x20]) (State.reset.setChan 5 { Channel.cold with
      claims := [⟨.hold, false, State.reset.now⟩, ⟨.schedule 2 0 4, true, State.reset.now⟩] })) =
      some (.ok, [0, 0x20, 0, 0x20]) := by decide +kernel

/-- READ_CHANNEL of an UNUSED channel with an empty list (R77, R81, R190). -/
theorem test_read_channel :
    answer (after (.readChannel 1 [5, 0]) State.reset) = some (.ok, [0, 0, 1, 0, 0, 2, 0, 2, 0, 0, 0, 192, 0, 0, 0]) := by
  decide +kernel

/-! ## The Switching Engine (worked example of Chapter 5; 8.0 ms are 262 cycles, a half period of 656 cycles is 328) -/

/-- CH1 at x1: operate delay 8.0 ms, so c is the next crossing and the coil action falls 8.0 ms before it. -/
theorem test_grant_next_crossing :
    ((relay .mono .queued).operation 1000 (some (1000, 656))).completeAt = 1328 ∧
      ((relay .mono .queued).operation 1000 (some (1000, 656))).actionAt = 1066 := by decide +kernel

/-- CH2 at x2: with no delay the crossing of the grant itself is not the target crossing. -/
theorem test_grant_without_delay : targetCrossing 1000 656 1000 0 = 1328 := by decide +kernel

/-- Configuring CH1 as BI makes it UNKNOWN and, outside RUN, queues nothing. -/
theorem test_configure_bi :
    answer (after (.configureChannel 1 [1, 2, 0, 1, 30, 0, 2, 0, 2]) State.reset) = some (.ok, [0, 2, 0]) := by decide +kernel

/-- In RUN the reconciliation test queues it at once. -/
theorem test_configure_bi_in_run :
    (after (.configureChannel 1 [1, 2, 0, 1, 30, 0, 2, 0, 2]) running).engine.queue = [1] := by decide +kernel

theorem test_stagger_zero : answer (after (.setStagger 1 [0]) State.reset) = some (.badField, []) := by decide +kernel

/-! ## Buttons (worked example of Chapter 6) -/

theorem test_configure_button :
    answer (after (.configureButton 1 [1, 0, 0xE0, 0, 0, 60, 1]) State.reset) = some (.ok, [0, 0xE0, 0, 0, 60, 1, 0]) := by
  decide +kernel

/-- Cold-start settings: AFTER(120), off, no action (R103). -/
theorem test_read_button :
    answer (after (.readButton 1 [3]) State.reset) =
      some (.ok, [0, 0, 0, 0, 120, 0, 0, 0, 0, 0xFF, 0xFF, 0xFF, 0xFF, 0xFF]) := by decide +kernel

/-- 605 ms is a short press; CH7 is held, so CH5 and CH6 go ON. -/
theorem test_short_press :
    let t := after (.buttonReleaseConfirm 983 1) (pressing (.pressed 0 (some 19825)) false ((running.setClocks 19825 0).setChan 7
      { Channel.cold with claims := [⟨.hold, false, running.now⟩] }))
    ((t.chan 5).target, (t.chan 6).target, (t.chan 7).target) = (true, true, false) ∧ (t.button 1).lastOutcome = .shortOn := by
  decide +kernel

/-- A release at 2.000 s is NO_ACTION. -/
theorem test_two_second_press :
    ((after (.buttonReleaseConfirm 983 1) (pressing (.pressed 0 (some 65536)) false (running.setClocks 65536 0))).button 1).lastOutcome =
      .noAction := by decide +kernel

/-- Low again past P + 3 s while the crystal is stopped: the long press waits for the crystal (R106). -/
theorem test_long_press_waits_for_crystal :
    let s := pressing (.pressed 0 (some 98000)) false (running.setClocks 98500 0)
    let low := after (.buttonInputLow 0 1) (s.setTimeBase { s.time with crystalRunning := false })
    ((low.button 1).press, ((after (.longPress 0 1) low).button 1).press,
      ((after (.longPress 0 1) (after (.crystalRun 0) low)).button 1).press) =
      (.pressed 0 none, .pressed 0 none, .longDone none) := by decide +kernel

/-- Low again exactly 30 ms after the input went high: the release comes first (R106). -/
theorem test_low_after_release :
    let t := after (.buttonInputLow 983 1) (pressing (.pressed 0 (some 19825)) false (running.setClocks 19825 0))
    ((t.button 1).press, (t.button 1).lastOutcome) = (.debouncing 20808, .shortOn) := by decide +kernel

/-! ## Light (worked example of Chapter 7) -/

/-- Second 45: the counter reaches C, NIGHT with DUSK. -/
theorem test_dusk :
    ((after (.luxSample 0 88) (lit .dusking 4 0)).light.state, (after (.luxSample 0 88) (lit .dusking 4 0)).light.lastEvent.map (·.1)) =
      (.night, some .dusk) := by decide +kernel

/-- At DUSK the AT_DUSK entry starts (R37). -/
theorem test_dusk_starts :
    (((after (.luxSample 0 88) (holding { entry .armed with body := body 0x000C .atDusk .onLightDay } (lit .dusking 4 0))).slot 5).entry.map
      fun e => (e.state.isActive, e.starts)) = some (true, 1) := by decide +kernel

/-- Second 42: a rail sample leaves state and counter alone. -/
theorem test_rail_sample :
    ((after (.luxSample 0 1023) (lit .dusking 2 0)).light.confirm, (after (.luxSample 0 1023) (lit .dusking 2 0)).light.faults) =
      (2, 1) := by decide +kernel

theorem test_light_limits_equal :
    answer (after (.setLightLimits 1 [0, 120, 0, 120, 5]) State.reset) = some (.badField, []) := by decide +kernel

/-- The side is sent in UNKNOWN (R119, R190). -/
theorem test_read_light :
    answer (after (.readLight 1 []) State.reset) =
      some (.ok, [0, 0, 0, 0, 0, 120, 0, 200, 60, 0xFF, 0xFF, 0xFF, 0xFF, 0xFF, 0xFF, 0xFF, 0xFF]) := by decide +kernel

/-! ## Time and line (worked example of Chapter 8) -/

/-- 2031-10-14 is a Tuesday, day 2. -/
theorem test_weekday : (Date.mk 2031 10 14).weekday = 2 := by decide +kernel

/-- 2100 is no leap year (R122). -/
theorem test_no_29_february_2100 : readDate 100 2 29 = none := by decide +kernel

/-- 2000-01-01 was a Saturday. -/
theorem test_read_time :
    answer (after (.readTime 1 []) State.reset) = some (.ok, [0, 1, 1, 0, 0, 0, 6, 0, 0, 0, 0]) := by decide +kernel

theorem test_time_source_2 : answer (after (.setTimeSource 1 [2]) State.reset) = some (.badField, []) := by decide +kernel

theorem test_line_confirm_63 : answer (after (.setLineConfirm 1 [63]) State.reset) = some (.ok, [63, 0]) := by decide +kernel

theorem test_read_line :
    answer (after (.readLine 1 []) State.reset) = some (.ok, [0, 0xFF, 0xFF, 0xFF, 0xFF, 16, 0xFF, 0xFF]) := by decide +kernel

/-- In ACQUIRING a counting class of none is sent as 0, the first of its list; in LOCKED a verdict of 60 Hz as 2 (R133). -/
theorem test_read_line_classes :
    answer (after (.readLine 1 []) (State.reset.setLine { State.reset.line with state := .acquiring })) =
        some (.ok, [1, 0xFF, 0, 0, 0xFF, 16, 0xFF, 0xFF]) ∧
      answer (after (.readLine 1 []) (State.reset.setLine { State.reset.line with state := .locked, verdict := some .sixty })) =
        some (.ok, [2, 2, 0xFF, 0xFF, 0, 16, 0xFF, 0xFF]) := by decide +kernel

/-- A line one cycle short of LOCKED. -/
def locking : State :=
  (atTime ⟨⟨2031, 10, 14⟩, ⟨18, 12⟩, 0⟩).setLine { State.reset.line with
    state := .acquiring, counting := some .fifty, agreement := 3, confirmCount := 4, measureStart := some 0 }

/-- At 140.0 the fourth agreeing cycle makes LOCKED, and 16384 cycles hand over as 25 crossings. -/
theorem test_lock_hands_over :
    let t := after (.risingCrossing 655) (locking.setTimeBase { locking.time with elapsed := 15729 })
    (t.line.state, t.time.source, t.time.elapsed, t.time.divisor) = (.locked, .line, 25, some 50) := by decide +kernel

/-- 37 crossings hand back as 24248 cycles. -/
theorem test_absence_hands_back :
    (after (.absenceTimeout 1966) ((State.reset.setLine { State.reset.line with state := .locked, verdict := some .fifty }).setTimeBase
      { State.reset.time with source := .line, divisor := some 50, elapsed := 37 })).time.elapsed = 24248 := by decide +kernel

/-- 409 cycles are OUT. -/
theorem test_class_409 : cycleClass 409 = none := by decide +kernel

/-! ## Supply (worked example of Chapter 9) -/

/-- CH3, PULSING when the supply falls, becomes UNKNOWN. -/
theorem test_backup_cuts_pulse :
    ((after (.enterBackup 0) (running.setChan 3 (relay .bi (.pulsing (operation .a false))))).chan 3).driven = .unknown := by
  decide +kernel

/-- CH4, whose pulse had not begun, keeps its driven state. -/
theorem test_backup_before_pulse :
    ((after (.enterBackup 0) (running.setChan 4 { relay .bi (.issued (operation .b false)) with driven := .on })).chan 4).driven = .on := by
  decide +kernel

theorem test_set_supply : answer (after (.setSupply 1 [20]) State.reset) = some (.ok, [20, 2, 0, 10]) := by decide +kernel

theorem test_read_supply :
    answer (after (.readSupply 1 []) State.reset) =
      some (.ok, [2, 10, 0, 10, 0, 1, 0, 0, 0xFF, 0xFF, 0xFF, 0xFF, 0xFF, 0xFF, 0xFF, 0xFF, 0xFF, 0xFF]) := by decide +kernel

/-- A part as delivered, powered with the mains up, comes to the reset state. -/
theorem test_power_up_is_reset :
    after (.powerUp true true) (backedUp.setSupply { backedUp.supply with stopped := true }) = State.reset := by decide +kernel

/-! ## Store (worked example of Chapter 10) -/

/-- A store whose header fails at its marker: STORE_BAD. -/
theorem test_load_of_erased_store :
    (after (.loadDefaults 1 []) State.reset).store.load.badReason = some .marker ∧
      answer (after (.loadDefaults 1 []) State.reset) = some (.accepted, []) := by decide +kernel

/-- An item whose length byte reads as erased fails the walk, though its 257 bytes end inside L (R192). -/
theorem test_length_ff_fails_chain : chainOk [(16, 4)] (16 + 257) 1 16 = false ∧ chainOk [(16, 4), (17, 254)] (16 + 256) 1 16 = true := by
  decide +kernel

/-- A good header over no items: the load is DONE at its start (R162). -/
theorem test_load_of_no_items :
    let image : List Byte := [0x5A, 0xC3, 1, 0, 0, 0, 0]
    let array := (List.range 7).zip image
    let t := after (.loadDefaults 1 []) (State.reset.setArray array)
    headerTests array = none ∧ t.store.load.state = .done ∧ t.store.load.phase = none := by decide +kernel

/-- The check value of the CRC-16 with these parameters over "123456789" (PRESUMED: the value is general knowledge). -/
theorem test_crc16 : crc16 [0x31, 0x32, 0x33, 0x34, 0x35, 0x36, 0x37, 0x38, 0x39] = 0x29B1 := by decide +kernel

theorem test_load_status :
    answer (after (.loadStatus 1 []) State.reset) = some (.ok, [3, 0, 0xFF, 0xFF, 0xFF, 0xFF, 0xFF, 0, 0, 0, 0, 0xFF, 0xFF, 0xFF, 0xFF, 0,
      0xFF, 0xFF, 0xFF, 0xFF, 0]) := by decide +kernel

theorem test_read_store_erased : answer (after (.readStore 1 [7, 254, 2]) State.reset) = some (.ok, [7, 254, 2, 0xFF, 0xFF]) := by
  decide +kernel

theorem test_read_store_past_end : answer (after (.readStore 1 [7, 255, 2]) State.reset) = some (.badField, []) := by decide +kernel

/-- A second programming of a byte ANDs with the first (R155). -/
theorem test_program_ands : readCell (programCell [(100, 0xF0)] 100 0x3C) 100 = 0x30 := by decide +kernel

/-- PROGRAM_STORE that passes holds the executor and has no reply yet. -/
theorem test_program_holds :
    let t := after (.programStore 1 [0, 100, 2, 0xAA, 0x55]) State.reset
    t.port.executorBusy = true ∧ t.port.replies = [] := by decide +kernel

/-! ## The port (worked example of Chapter 11) -/

/-- SYNC, CMD, TAG, LEN and CRC-8 of IDENTIFY; the CRC calculated by hand from R172. -/
theorem test_request_frame : Request.frame ⟨0x72, 1, []⟩ = [0x3C, 0x72, 1, 0, 0x8F] := by decide +kernel

theorem test_frame_accepted :
    answer (after (.requestFrame 0 [0x3C, 0x72, 1, 0, 0x8F] 0) (clocking none State.reset)) =
      some (.ok, [0x2E, 0x16, 1, 128, 192, 48]) := by decide +kernel

/-- A corrupted CRC sets the discard flag. -/
theorem test_frame_discarded :
    (after (.requestFrame 0 [0x3C, 0x72, 1, 0, 0x8E] 0) (clocking none State.reset)).port.discard = true := by decide +kernel

/-- The NONE frame behind the status byte: no replies, four places, ATTN (R169, R173). -/
theorem test_none_frame :
    (List.range 3).map (after (.replyLatch 0) (after (.transactionStart 0) State.reset)).miso = [some 0x12, some 0, some 0] := by
  decide +kernel

/-- A frame cut short stays at the head; one shifted out in full leaves it. -/
theorem test_reply_cut_short :
    (after (.replyReadEnd 0 4) (clocking (some (.head ⟨2, 0x72, .ok, []⟩))
      (State.reset.pushReply ⟨2, 0x72, .ok, []⟩))).port.replies.length = 1 := by decide +kernel

theorem test_reply_removed :
    (after (.replyReadEnd 0 5) (clocking (some (.head ⟨2, 0x72, .ok, []⟩))
      (State.reset.pushReply ⟨2, 0x72, .ok, []⟩))).port.replies.length = 0 := by decide +kernel

/-- READ_CHANGES after a cold start on an erased store: SYSTEM with COLD_START and LOAD_DONE. -/
theorem test_read_changes : answer (after (.readChanges 1 [16]) State.reset) = some (.ok, [1, 0, 3, 0, 0, 0x21]) := by decide +kernel

/-- Masking SYSTEM deasserts ATTN. -/
theorem test_mask_clears_attn : (after (.setNoticeMask 1 [7]) State.reset).attn = false := by decide +kernel

theorem test_unknown : answer (after (.unknownCommand 0x73 1 []) State.reset) = some (.unknownCommand, []) := by decide +kernel

/-! ## Witnesses

Each shows states and operands that meet the hypotheses of the statement it is named after, clause by clause, at a boundary value where a
clause has a range. -/

theorem ready_of {s : State} (h : s.port = State.reset.port) (k : s.supply.state = .restoring) : s.Ready where
  active := by simp [State.portActive, h, k]; rfl
  idle := by rw [h]; rfl
  empty := by rw [h]; rfl
  room := by rw [h]; decide

theorem reset_ready : State.reset.Ready := ready_of rfl rfl

/-- A machine in RUN with a queued and an issued channel, a PROGRAM_STORE in progress and records in the calendar. -/
def working : State :=
  let s := (((running.setChan 0 (relay .bi .queued)).setChan 1 { relay .mono (.issued (operation .a true)) with pinA := true }).setEngine
    ⟨[0], 4, 1⟩).setCalendar arcade.calendar
  { s with
    pending := [.identify 1 []]
    store := ⟨[(100, 0x3C)], LoadRecord.erasedStore, some ⟨100, [0x3C, 0x55], 1, 7, 0, false⟩⟩
    port := { s.port with executorBusy := true } }

/-- Reset, with every slot taken, slot 9 by an ENDED entry if asked. -/
def full (ended : Bool) : State :=
  let t : ScheduleTable := ⟨Vector.replicate 128 ⟨3, some (entry .suspended)⟩, if ended then [9] else []⟩
  if ended then (State.reset.setTable t).setSlot 9 ⟨3, some (entry (.ended .spent ⟨⟨2000, 1, 1⟩, ⟨0, 0⟩⟩))⟩
  else State.reset.setTable t

/-- Reset, with a load running. -/
def loading : State := State.reset.setLoad { LoadRecord.erasedStore with state := .running }

/-- Reset, with the executor BUSY and some requests waiting. -/
def crowded (n : Nat) : State :=
  State.reset.setPort { State.reset.port with executorBusy := true, requests := List.replicate n ⟨0x72, 1, []⟩ }

theorem witness_StepTakesFrontCommand : working.pending = [.identify 1 []] := rfl

theorem witness_StepOnEmptyQueue :
    State.reset.pending = [] ∧ State.reset.dueEvent = none ∧ (State.reset.elapse 328).pending = [] ∧
      (State.reset.elapse 328).dueEvent = some (.crystalTick 0) := by decide +kernel

theorem witness_TimePassesOnTheClocks :
    (State.reset.setSupply { State.reset.supply with stopped := true }).supply.stopped = true ∧
      State.reset.supply.stopped = false ∧ State.reset.time.crystalRunning = true ∧ State.reset.time.source = .crystal ∧
      (State.reset.setTimeBase { State.reset.time with source := .line }).time.source = .line ∧
      (State.reset.setTimeBase { State.reset.time with crystalRunning := false }).time.crystalRunning = false := by decide +kernel

theorem witness_FrameIsTheCommand :
    (Instr.identify 1 []).wellFormed = true ∧ (Instr.identify 1 []).request = some (0x72, 1, []) ∧
      ((clocking none State.reset).elapse 0).port.transaction.isSome = true ∧ ((clocking none State.reset).elapse 0).portActive = true ∧
      ((clocking none (crowded 3)).elapse 0).raiseCsn.port.requests.length < 4 ∧
      ((clocking none (crowded 3)).elapse 0).raiseCsn.port.executorBusy = true ∧
      (List.replicate 60 (0 : Byte)).length ≤ 60 ∧ (State.reset.elapse 0).port.transaction = none := by
  decide +kernel

/-- The last clause of the frame's effect: a ready port behind a transaction. -/
theorem witness_FrameIsTheCommand_ready : ((clocking none State.reset).elapse 0).raiseCsn.Ready :=
  ⟨by decide +kernel, by decide +kernel, by decide +kernel, by decide +kernel⟩

theorem witness_BadFramesAreDiscarded :
    ((clocking none (crowded 4)).elapse 0).port.transaction.isSome = true ∧ 4 ≤ ((clocking none (crowded 4)).elapse 0).port.requests.length ∧
      ([0x3D] : List Byte).head? ≠ some 0x3C ∧ ([0x3C, 0x72, 1] : List Byte).length < 4 ∧
      60 < (([0x3C, 0x72, 1, 61] : List Byte).getD 3 0).toNat ∧
      ([0x3C, 0x72, 1, 0] : List Byte).length ≠ (([0x3C, 0x72, 1, 0] : List Byte).getD 3 0).toNat + 5 ∧
      crc8 (([0x3C, 0x72, 1, 0, 0] : List Byte).drop 1 |>.take 3) ≠ ([0x3C, 0x72, 1, 0, 0] : List Byte).getD 4 0 := by decide +kernel

theorem witness_RequestsWaitForTheExecutor :
    (crowded 3).portActive = true ∧ (crowded 3).port.executorBusy = true ∧ (crowded 3).port.requests.length < 4 ∧
      4 ≤ (crowded 4).port.requests.length ∧ (crowded 4).portActive = true ∧ backedUp.portActive = false ∧
      State.reset.executor.executorFree = true := by decide +kernel

theorem witness_RefusalsChangeNothing :
    State.reset.Ready ∧ (Instr.unknownCommand 0x73 1 []).wellFormed = true ∧
      (Instr.unknownCommand 0x73 1 []).request = some (0x73, 1, []) ∧ catalogue.contains (0x73 : Byte).toNat = false :=
  ⟨reset_ready, by decide, by decide, by decide⟩

theorem witness_BusyDuringLoad : loading.Ready ∧ loading.loadRunning = true ∧ ([] : List Byte).length ≤ 60 :=
  ⟨ready_of rfl rfl, by decide +kernel, by decide⟩

theorem witness_StepKeepsEngineInvariant : working.EngineOk ∧ working.RelaysAgree ∧ ∃ t, step working = .next t :=
  ⟨⟨by decide +kernel, by decide +kernel, by decide +kernel, fun h => absurd rfl h⟩, ⟨by decide +kernel, by decide +kernel⟩, _, rfl⟩

/-- The evening entry ACTIVE in slot 5, with its claims drawn, and an ENDED entry in slot 9. -/
def scheduled : State :=
  let s := (holding (entry .armed) State.reset).setTable
    { (holding (entry .armed) State.reset).table with endedOrder := [9] }
  (after (.startEntry 1 [5, 2]) (s.setSlot 9 ⟨3, some (entry (.ended .spent ⟨⟨2000, 1, 1⟩, ⟨0, 0⟩⟩))⟩)).setPending [.identify 1 []]

theorem witness_StepKeepsTargets :
    working.TargetsOk ∧ (∃ t, step working = .next t) ∧ scheduled.ScheduleOk ∧ (∃ t, step scheduled = .next t) ∧
      scheduled.freeCount = 190 ∧ (scheduled.chan 2).claims.length = 1 :=
  ⟨by unfold State.TargetsOk; decide +kernel, ⟨_, rfl⟩,
    ⟨by decide +kernel, by decide +kernel, by decide +kernel, by decide +kernel, by decide +kernel, by decide +kernel, by decide +kernel,
      by decide +kernel⟩,
    ⟨_, rfl⟩,
    by decide +kernel, by decide +kernel⟩

theorem witness_StepKeepsPortInvariant : working.PortOk ∧ ∃ t, step working = .next t :=
  ⟨⟨by decide +kernel, by decide +kernel, rfl, fun _ _ => by decide +kernel, fun h => absurd h (by decide +kernel)⟩, _, rfl⟩

theorem witness_StepKeepsChangeSet : changesOk working.port.changes ∧ ∃ t, step working = .next t :=
  ⟨by unfold changesOk; decide +kernel, _, rfl⟩

theorem witness_StoreBitsOnlyFall : working.StoreOk ∧ ∃ t, step working = .next t :=
  ⟨⟨by decide +kernel, fun pr h => by cases h; decide⟩, _, rfl⟩

theorem witness_StepKeepsCalendar : working.CalendarOk ∧ ∃ t, step working = .next t :=
  ⟨⟨by decide +kernel, by decide +kernel, by decide +kernel⟩, _, rfl⟩

theorem witness_StepKeepsTimeAndLightRanges :
    working.time.time.isReal = true ∧ working.light.Ok ∧ ∃ t, step working = .next t :=
  ⟨by decide +kernel, ⟨by decide +kernel, by decide +kernel, by decide +kernel, by decide +kernel, fun _ h => by cases h⟩, _, rfl⟩

/-- A body with every optional part. -/
def fullBody : EntryBody :=
  { body 0x8001 .atDusk .onLightDay with
    windowEarliest := some ⟨23, 59⟩, windowLatest := some ⟨0, 0⟩, startFallback := some ⟨18, 45⟩, endFallback := some ⟨6, 30⟩
    validFrom := some ⟨2000, 1, 1⟩, validUntil := some ⟨2199, 12, 31⟩, count := some 65535 }

theorem witness_EntryBodyRoundTrip : fullBody.WellFormed where
  trigger := trivial
  ending := trivial
  weekdays := by decide
  classes := by decide
  dates := by rintro d (h | h) <;> cases h <;> decide
  times := by rintro t (h | h | h | h) <;> cases h <;> decide
  count := by intro n h; cases h; decide
  consistent := by decide

theorem witness_CreateEntryMakesEntry :
    (full true).Ready ∧ (full false).Ready ∧ (atTime ⟨⟨2031, 3, 13⟩, ⟨0, 0⟩, 0⟩).Ready ∧ bodyLengthOk (writeBody evening) = true ∧
      readBody (writeBody evening) = some evening ∧
      (full true).loadRunning = false ∧ (full true).judge evening ≠ .expired ∧ (∀ i, ((full true).slot i).entry ≠ none) ∧
      (full true).table.endedOrder = [9] ∧ (∀ i, ((full false).slot i).entry ≠ none) ∧ (full false).table.endedOrder = [] ∧
      (State.reset.slot 0).entry = none ∧ (∀ j, j < (0 : SlotNo) → (State.reset.slot j).entry ≠ none) ∧
      (atTime ⟨⟨2031, 3, 13⟩, ⟨0, 0⟩, 0⟩).judge { evening with validUntil := some ⟨2031, 3, 12⟩ } = .expired ∧
      readBody (writeBody { evening with validUntil := some ⟨2031, 3, 12⟩ }) =
        some { evening with validUntil := some ⟨2031, 3, 12⟩ } := by
  refine ⟨ready_of (by decide +kernel) (by decide +kernel), ready_of (by decide +kernel) (by decide +kernel), ready_of rfl rfl, ?_⟩
  decide +kernel

/-- The catch-up check: the evening entry at 20:17:09, its latest start at 18:30 of the same day, with its end still ahead. -/
theorem witness_CreateEntryMakesEntry_catchUp :
    let s := holding { entry .armed with body := { evening with catchUp := true } } (atTime ⟨⟨2031, 6, 4⟩, ⟨20, 17⟩, 9⟩)
    s.time.time.isReal = true ∧ evening.trigger.InRange ∧ s.time.validity = .valid ∧ evening.ending = .atTime ⟨23, 0⟩ ∧
      s.LatestStart { evening with catchUp := true } ⟨⟨2031, 6, 4⟩, ⟨18, 30⟩⟩ ∧
      s.now.key < ((⟨⟨2031, 6, 4⟩, ⟨18, 30⟩⟩ : CalMinute).firstAfter ⟨23, 0⟩).key ∧ setSize evening.channels ≤ s.freeCount := by
  refine ⟨by decide +kernel, ?_, rfl, rfl, ⟨?_, ?_⟩, by decide +kernel, by decide +kernel⟩
  · exact ⟨by decide, by simp, by simp, by simp, by decide⟩
  · exact ⟨⟨by decide, Or.inl ⟨rfl, Or.inl (by decide)⟩⟩, by decide, by decide +kernel, by decide⟩
  · rintro ⟨d, ⟨h, m⟩⟩ ⟨⟨_, hd⟩, hm, -, -⟩
    simp [evening, body, StartTrigger.matchesMinute, anyOr] at hm
    obtain ⟨rfl, rfl⟩ := hm
    obtain ⟨rfl, -⟩ | ⟨hd, -⟩ := hd
    · exact le_refl _
    · obtain rfl : d = ⟨2031, 6, 3⟩ := (Option.some.inj hd).symm
      decide

theorem witness_ReadAndFindEntries :
    (holding (entry .armed) State.reset).Ready ∧ readSlotNo 5 = some 5 ∧
      (holding (entry .armed) State.reset).slot 5 = ⟨2, some (entry .armed)⟩ ∧
      filterOk 0xFF 0xFF 0xFF 127 = true ∧ filterOk 15 31 1 0 = true :=
  ⟨ready_of rfl rfl, by decide +kernel, by decide +kernel, by decide, by decide⟩

theorem witness_HandlesAreChecked :
    State.reset.Ready ∧ State.reset.loadRunning = false ∧ bodyLengthOk (writeBody evening) = true ∧ 128 ≤ (128 : Byte).toNat ∧
      readSlotNo 127 = some 127 ∧ (State.reset.slot 127).entry = none ∧
      (holding (entry .armed) State.reset).Ready ∧ ((holding (entry .armed) State.reset).slot 5).generation ≠ 3 :=
  ⟨reset_ready, by decide +kernel, by decide +kernel, by decide, by decide +kernel, by decide +kernel, ready_of rfl rfl, by decide +kernel⟩

/-- A handle (5, 2) that names an entry in each state, on a ready port with no load running. -/
theorem held_entry (e : Entry) :
    (holding e State.reset).Ready ∧ (holding e State.reset).loadRunning = false ∧ readSlotNo 5 = some 5 ∧
      (holding e State.reset).slot 5 = ⟨2, some e⟩ :=
  ⟨ready_of rfl rfl, rfl, by decide +kernel, by simp [holding, State.slot, State.setSlot, State.setTable]⟩

theorem witness_ModifyEntryReplacesBody :
    (holding (entry (.active claim false)) State.reset).Ready ∧ (entry (.ended .spent claim.start)).state.isEnded = true ∧
      (entry (.active claim false)).state.isEnded = false ∧ State.reset.judge evening ≠ .expired ∧
      (atTime ⟨⟨2031, 3, 13⟩, ⟨0, 0⟩, 0⟩).judge { evening with validUntil := some ⟨2031, 3, 12⟩ } = .expired :=
  ⟨(held_entry _).1, by decide, by decide, by decide +kernel, by decide +kernel⟩

theorem witness_SuspendAndResumeEntry :
    (holding (entry .suspended) State.reset).Ready ∧ State.reset.judge evening = .armed ∧
      State.reset.judge { evening with validFrom := some ⟨2000, 1, 1⟩ } = .waiting ∧
      (atTime ⟨⟨2031, 3, 13⟩, ⟨0, 0⟩, 0⟩).judge { evening with validUntil := some ⟨2031, 3, 12⟩ } = .expired ∧
      (entry (.active claim false)).state.isActive = true ∧ (entry .waiting).state ≠ .suspended :=
  ⟨(held_entry _).1, by decide +kernel, by decide +kernel, by decide +kernel, by decide, by decide⟩

theorem witness_RetireEntryFreesSlot : (holding (entry (.active claim false)) State.reset).Ready ∧ (entry (.active claim false)).state.isActive = true :=
  ⟨(held_entry _).1, by decide⟩

theorem witness_StartEntryPlacesClaims :
    (holding (entry .armed) State.reset).Ready ∧ setSize evening.channels ≤ 2 ∧ 1 < setSize evening.channels ∧
      evening.count ≠ some 0 ∧ (entry .waiting).offered = false ∧
      (scheduled.chan 3).claims.filter (Claim.isOf 5) = [⟨.schedule 5 2 4, true, State.reset.now⟩] :=
  ⟨(held_entry _).1, by decide +kernel, by decide +kernel, by decide, by decide, by decide +kernel⟩

theorem witness_EndEntryRemovesClaims :
    (holding (entry (.active claim true)) State.reset).Ready ∧ (entry .armed).state.isActive = false := ⟨(held_entry _).1, by decide⟩

theorem witness_ClearAllEmpties :
    (full true).Ready ∧ (full true).loadRunning = false ∧ ∀ i ∈ (full true).table.endedOrder, ((full true).slot i).entry.isSome = true :=
  ⟨ready_of (by decide +kernel) (by decide +kernel), by decide +kernel, by decide +kernel⟩

/-- The half-past-six entry alone in the table, at its minute, with the minute tick owed. -/
def ticking (e : Entry) : State :=
  let s := holding e (atTime ⟨⟨2031, 3, 10⟩, ⟨18, 30⟩, 0⟩)
  s.setTimeBase { s.time with tableTickOwed := true, claimTickOwed := true }

/-- The half-past-six entry with some dates and a count. -/
def dated (validFrom validUntil : Option Date) (st : EntryState) : Entry :=
  { entry st with body := { evening with validFrom := validFrom, validUntil := validUntil, count := some 2 } }

/-- An entry alone in the table at 00:00 of 2031-03-10, with the minute tick owed and a dated record that ended the day before. -/
def midnight (e : Entry) : State :=
  let s := ticking e
  (s.setTimeBase { s.time with time := ⟨⟨2031, 3, 10⟩, ⟨0, 0⟩, 0⟩ }).setCalendar ⟨[⟨.dated ⟨2031, 3, 9⟩ ⟨2031, 3, 9⟩, .x1, .host⟩], .x1⟩

/-- A dusk entry with a start fallback at half past six. -/
def fallback : Entry :=
  { entry .armed with body := { body 0x000C .atDusk .onLightDay with startFallback := some ⟨18, 30⟩, endFallback := some ⟨18, 30⟩ } }

theorem witness_MinuteEvaluationStages :
    let s := ticking (entry .armed)
    (s.elapse 0).time.tableTickOwed = true ∧ (s.elapse 0).supply.stopped = false ∧ State.reset.time.tableTickOwed = false ∧
      (s.elapse 0).time.time.tod ≠ ⟨0, 0⟩ ∧ ((midnight (entry .armed)).elapse 0).time.time.tod = ⟨0, 0⟩ ∧
      (((midnight (entry .armed)).elapse 0).calendar.records.any fun r => !r.keptOn ((midnight (entry .armed)).elapse 0).today) = true ∧
      (let doubtful := (s.setTimeBase { s.time with validity := .doubtful }).elapse 0;
        doubtful.time.validity ≠ .valid ∧ doubtful.time.tableTickOwed = true) ∧ setSize evening.channels ≤ (s.elapse 0).freeCount ∧
      ((s.setFreeCount 1).elapse 0).freeCount < setSize evening.channels := by decide +kernel

/-- A start offered by the pattern and one by the fallback, the light being UNKNOWN; and none at a minute that fits neither. -/
theorem witness_MinuteEvaluationStages_starts :
    ((ticking (entry .armed)).elapse 0).Alone 5 2 (entry .armed) ∧
      ((ticking (entry .armed)).elapse 0).StartOffered (entry .armed) .normal ∧
      ((ticking fallback).elapse 0).StartOffered fallback .normal ∧
      ¬ ((midnight (entry .armed)).elapse 0).StartOffered (entry .armed) .normal := by
  refine ⟨⟨rfl, by decide +kernel⟩, ⟨rfl, by decide +kernel, ?_, ?_, .inl (by decide +kernel)⟩,
    ⟨rfl, by decide +kernel, ?_, ?_, .inr ⟨rfl, rfl, .inl rfl, by decide⟩⟩, ?_⟩
  · rintro ⟨_, h, -⟩; cases h
  · rintro ⟨_, h, -⟩; cases h
  · rintro ⟨_, h, -⟩; cases h
  · rintro ⟨_, h, -⟩; cases h
  · rintro ⟨-, -, -, -, h | ⟨h, -⟩⟩
    · exact absurd h (by decide +kernel)
    · cases h

/-- A claim end due by its minutes, its cap, its AT instant and its end fallback, and one that is not due. -/
theorem witness_MinuteEvaluationStages_ends :
    let u := (ticking (entry .armed)).elapse 0
    let late : CalMinute := ⟨⟨2031, 3, 11⟩, ⟨6, 0⟩⟩
    u.EndDue { claim with endInstant := none, remaining := some 1 } ∧ u.EndDue { claim with cap := 1 } ∧
      u.EndDue { claim with endInstant := some u.now } ∧
      u.EndDue { claim with endInstant := none, fallbackInstant := some u.now } ∧
      ¬ u.EndDue { claim with endInstant := some late, remaining := some 2, cap := 2 } := by
  refine ⟨.inl ⟨1, rfl, by decide⟩, .inr (.inl (by decide)), .inr (.inr (.inl ⟨_, rfl, Nat.le_refl _⟩)),
    .inr (.inr (.inr ⟨⟨_, rfl, Nat.le_refl _⟩, .inl rfl⟩)), ?_⟩
  rintro (⟨n, h, k⟩ | h | ⟨m, h, k⟩ | ⟨⟨m, h, -⟩, -⟩)
  · cases h; omega
  · exact absurd h (by decide)
  · cases h; exact absurd k (by decide +kernel)
  · cases h

/-- Dates at the rollover: past by one day, not past on the last day, reached on the first, not reached on the day before. -/
theorem witness_MinuteEvaluationStages_dates :
    let today := ((midnight (entry .waiting)).elapse 0).today
    (dated none (some ⟨2031, 3, 9⟩) .waiting).body.Past today ∧ ¬ (dated none (some ⟨2031, 3, 10⟩) .waiting).body.Past today ∧
      ¬ (dated (some ⟨2031, 3, 10⟩) none .waiting).body.Early today ∧ (dated (some ⟨2031, 3, 11⟩) none .waiting).body.Early today := by
  refine ⟨⟨_, rfl, by decide +kernel⟩, ?_, ?_, ⟨_, rfl, by decide +kernel⟩⟩
  · rintro ⟨_, h, k⟩; cases h; exact absurd k (by decide +kernel)
  · rintro ⟨_, h, k⟩; cases h; exact absurd k (by decide +kernel)

theorem witness_AddAndRemoveException :
    arcade.Ready ∧ arcade.loadRunning = false ∧
      readException 3 31 12 27 31 12 28 = some (.dated ⟨2031, 12, 27⟩ ⟨2031, 12, 28⟩, .x3) ∧
      readException 3 31 12 19 31 12 19 = some (.dated ⟨2031, 12, 19⟩ ⟨2031, 12, 19⟩, .x3) ∧
      ExceptionRecord.lapsed ⟨.dated ⟨2031, 12, 19⟩ ⟨2031, 12, 19⟩, .x3, .host⟩ arcade.today = true ∧
      arcade.calendar.records.any (fun y => y.span.conflicts (.annual ⟨12, 20⟩ ⟨1, 2⟩)) = true ∧
      48 ≤ (List.replicate 48 (ExceptionRecord.mk (.annual ⟨1, 1⟩ ⟨1, 1⟩) .x2 .host)).length ∧
      readFirstDay 0x80 0xFF 2 29 = some (.annual ⟨2, 29⟩ ⟨2, 29⟩) ∧
      arcade.calendar.records.any (fun r => r.span.startsOn (.annual ⟨2, 29⟩ ⟨2, 29⟩)) = false ∧
      arcade.calendar.records.any (fun r => r.span.startsOn (.annual ⟨1, 1⟩ ⟨1, 1⟩)) = true := by
  refine ⟨ready_of rfl rfl, ?_⟩
  decide +kernel

theorem witness_ListAndClassifyDays :
    arcade.Ready ∧ 48 < (49 : Byte).toNat ∧ (48 : Byte).toNat ≤ 48 ∧ readDate 200 1 1 = none ∧ readDate 199 12 31 = some ⟨2199, 12, 31⟩ :=
  ⟨ready_of rfl rfl, by decide, by decide, by decide, by decide⟩

theorem witness_OverridePlacesAndClears :
    State.reset.Ready ∧ readFlag 2 = none ∧ readEnding 0 0 0 = none ∧ readEnding 0 5 160 = some (.after 1440) ∧
      readEnding 0 5 161 = none ∧ readEnding 1 0 0 = some .untilNext ∧ readFlag 1 = some true ∧ readSet 0 0 = 0 ∧ readSet 0x80 1 ≠ 0 :=
  ⟨reset_ready, by decide, by decide, by decide, by decide, by decide, by decide, by decide, by decide⟩

theorem witness_HoldPlacesAndReleases : State.reset.Ready ∧ readFlag 0 = some false ∧ readFlag 2 = none ∧ readSet 0 0 = 0 ∧ readSet 0x80 1 ≠ 0 :=
  ⟨reset_ready, by decide, by decide, by decide, by decide⟩

theorem witness_ReadChannelReturnsState :
    State.reset.Ready ∧ 16 ≤ (16 : Byte).toNat ∧ 130 < (131 : Byte).toNat ∧ (15 : Byte).toNat = (15 : Chan).val ∧ (130 : Byte).toNat ≤ 130 :=
  ⟨reset_ready, by decide, by decide, by decide, by decide⟩

theorem witness_OverrideCountdownLowers :
    ((ticking (entry .armed)).elapse 0).time.claimTickOwed = true ∧ ((ticking (entry .armed)).elapse 0).supply.stopped = false ∧
      (State.reset.elapse 0).time.claimTickOwed = false := by decide +kernel

theorem witness_SwitchingCommands :
    State.reset.Ready ∧ State.reset.loadRunning = false ∧ readChannelNo 16 = none ∧ readConfig 1 0 1 120 120 8 2 88 = some
      ⟨.mono, false, true, 120, 120, 8, 600⟩ ∧ readConfig 1 0 1 121 0 1 0 0 = none ∧ readChannelNo 15 = some 15 ∧
      (State.reset.chan 15).switch.inFlight = false ∧ (relay .mono (.issued (operation .a false))).switch.inFlight = true ∧
      (0 : Byte).toNat = 0 ∧ 16 < (17 : Byte).toNat ∧ 1 ≤ (1 : Byte).toNat ∧ (16 : Byte).toNat ≤ 16 := by
  refine ⟨reset_ready, ?_⟩
  decide +kernel

theorem witness_SlotGrantsFromTheHead :
    (State.reset.elapse 328).tickDue = true ∧ (State.reset.elapse 327).tickDue = false ∧ working.engine.queue.Nodup := by decide +kernel

theorem witness_TargetCrossingIsEarliest : 0 < 656 ∧ 1000 ≤ 1000 ∧ targetCrossing 1000 656 1000 328 = 1328 := by decide

theorem witness_OperationInstants :
    (relay .mono (.issued (operation .a false))).config.kind = .mono ∧ (operation .a false).acted = false ∧
      (operation .a false).pin = .a ∧ (operation .a false).actionAt ≤ 0 ∧
      (relay .bi (.issued (operation .b false))).config.kind = .bi ∧ (operation .a true).acted = true ∧
      (operation .a true).completeAt ≤ 0 ∧
      ((State.reset.setChan 3 (relay .bi (.pulsing (operation .b false)))).elapse 0).chan 3 = relay .bi (.pulsing (operation .b false)) := by
  decide +kernel

theorem witness_ButtonCommands :
    State.reset.Ready ∧ (3 : Byte).toNat = (3 : ButtonNo).val ∧ State.reset.loadRunning = false ∧ readEnding 0 5 160 = some (.after 1440) ∧
      readFlag 1 = some true ∧ readFlag 0 = some false ∧ readSet 0 1 ≠ 0 ∧ readSet 0 0 = 0 :=
  ⟨reset_ready, by decide, by decide +kernel, by decide, by decide, by decide, by decide, by decide⟩

theorem witness_PressTiming :
    (((pressing .released false State.reset).elapse 0).button 1).enabled = true ∧
      ((pressing .released false State.reset).elapse 0).supply.state ≠ .backup ∧
      (((pressing .released false State.reset).elapse 0).button 1).press = .released ∧
      (((pressing (.debouncing 0) true State.reset).elapse 982).button 1).pinLow = true ∧
      ((pressing (.debouncing 0) true State.reset).elapse 982).cycles < 0 + 983 ∧
      0 + 983 ≤ ((pressing (.debouncing 0) true State.reset).elapse 983).cycles ∧
      (((pressing (.pressed 0 none) true State.reset).elapse 0).button 1).press = .pressed 0 none ∧
      ((pressing (.pressed 0 (some 97322)) false State.reset).elapse 98303).cycles < 0 + 98304 ∧
      ((pressing (.pressed 0 (some 97322)) false State.reset).elapse 98303).cycles < 97322 + 983 ∧
      0 + 98304 ≤ ((pressing (.pressed 0 (some 97322)) false State.reset).elapse 98304).cycles ∧
      ((pressing (.pressed 0 (some 97322)) false State.reset).elapse 98304).cycles < 97322 + 983 ∧
      49152 + 983 ≤ ((pressing (.pressed 0 (some 49152)) false State.reset).elapse 50135).cycles := by decide +kernel

theorem witness_PressActions :
    ((channelsOf (((pressing (.pressed 0 none) true State.reset).elapse 98304).button 1).channels).filter fun c =>
        !(((pressing (.pressed 0 none) true State.reset).elapse 98304).chan c).claims.any Claim.isHold) ≠ [] ∧
      0 + 98304 ≤ ((pressing (.pressed 0 none) true State.reset).elapse 98304).cycles ∧
      49151 + 983 ≤ ((pressing (.pressed 0 (some 49151)) false State.reset).elapse 50134).cycles ∧ 49151 < 0 + 49152 ∧
      49152 + 983 ≤ ((pressing (.pressed 0 (some 49152)) false State.reset).elapse 50135).cycles ∧
      ((pressing (.pressed 0 none) true State.reset).elapse 98304).supply.state ≠ .backup ∧
      ((pressing (.pressed 0 none) true State.reset).elapse 98304).time.crystalRunning = true ∧
      ((pressing (.pressed 0 none) true
        (State.reset.setTimeBase { State.reset.time with crystalRunning := false })).elapse 1).time.crystalRunning = false := by
  decide +kernel

/-- The press of a button whose channels are all held, and a release after a long press. -/
theorem witness_PressActions_held :
    let held := State.reset.forEach [5, 6, 7] fun s c => s.putHold c true
    let u := (pressing (.pressed 0 none) true held).elapse 98304
    ((channelsOf (u.button 1).channels).filter fun c => !(u.chan c).claims.any Claim.isHold) = [] ∧
      (∃ c ∈ channelsOf (u.button 1).channels, (u.chan c).claims.any Claim.isHold = true) ∧ 0 + 98304 ≤ u.cycles ∧
      (((pressing (.longDone (some 0)) false State.reset).elapse 983).button 1).press = .longDone (some 0) ∧
      0 + 983 ≤ ((pressing (.longDone (some 0)) false State.reset).elapse 983).cycles :=
  ⟨by decide +kernel, ⟨5, by decide +kernel, by decide +kernel⟩, by decide +kernel, by decide +kernel, by decide +kernel⟩

theorem witness_LightCommands :
    State.reset.Ready ∧ State.reset.loadRunning = false ∧ natOf 3 255 ≤ 1023 ∧ 1023 < natOf 4 0 ∧ natOf 3 254 < natOf 3 255 ∧
      natOf 0 120 ≤ natOf 0 120 := ⟨reset_ready, by decide +kernel, by decide, by decide, by decide, by decide⟩

theorem witness_SampleIsClassified :
    ((lit .dusking 4 0).elapse 0).supply.state ≠ .backup ∧ ((lit .dusking 4 0).elapse 0).time.crystalRunning = true ∧
      ((lit .dusking 4 0).elapse 0).light.nextSample ≤ ((lit .dusking 4 0).elapse 0).cycles ∧ 1023 < 1024 ∧
      119 < ((lit .dusking 4 0).elapse 0).light.darkEnter ∧
      ((lit .dusking 4 0).elapse 0).light.confirmCount ≤ ((lit .dusking 4 0).elapse 0).light.confirm + 1 ∧
      ((lit .dusking 3 0).elapse 0).light.confirm + 1 < ((lit .dusking 3 0).elapse 0).light.confirmCount ∧
      ((lit .unknown 4 0).elapse 0).light.side = .dark ∧ ((lit .night 0 29).elapse 0).light.faults = 29 ∧
      ((lit .night 0 28).elapse 0).light.faults < 29 ∧ ((lit .fault 0 29).elapse 0).light.faults = 29 ∧
      ((lit .dawning 4 0).elapse 0).light.confirmCount ≤ ((lit .dawning 4 0).elapse 0).light.confirm + 1 ∧
      ((lit .dawning 3 0).elapse 0).light.confirm + 1 < ((lit .dawning 3 0).elapse 0).light.confirmCount ∧
      ((lit .night 0 0).elapse 0).light.darkLeave ≤ 200 ∧ 1 < ((lit .day 0 0).elapse 0).light.confirmCount := by decide +kernel

/-- The premise of the mirror runs, and of the light events: an entry alone in the table, ARMED and fit for DUSK. -/
theorem witness_SampleIsClassified_event :
    let u := holding { entry .armed with body := body 0x000C .atDusk .onLightNight } (lit .dusking 4 0)
    ((lit .dawning 4 0).elapse 0).light.Ok ∧ (∀ j, j ≠ (5 : SlotNo) → (u.slot j).entry = none) ∧
      u.Alone 5 2 { entry .armed with body := body 0x000C .atDusk .onLightNight } ∧ EntryEnd.onLightDay ≠ .onLightNight ∧
      (u.setFreeCount 1).freeCount < setSize (0x000C : Word) ∧
      (body 0x000C .atDusk .onLightNight).eligible u.today u.calendar.todayClass = true ∧ u.time.validity ≠ .valid ∧
      setSize (0x000C : Word) ≤ u.freeCount :=
  ⟨⟨by decide +kernel, by decide +kernel, by decide +kernel, by decide +kernel, fun _ h => by cases h⟩, by decide +kernel,
    ⟨rfl, by decide +kernel⟩, by decide, by decide +kernel, by decide +kernel, by decide +kernel, by decide +kernel⟩

/-- The runs in UNKNOWN: on the side held, on the other, at C and below it, at the limits of each class. -/
theorem witness_SampleIsClassified_unknown :
    let l := ((lit .unknown 4 0).elapse 0).light
    l.state = .unknown ∧ l.side = .dark ∧ l.confirmCount ≤ l.confirm + 1 ∧ 1 < l.confirmCount ∧ 119 < l.darkEnter ∧ l.darkEnter ≤ 120 ∧
      199 < l.darkLeave ∧ l.darkLeave ≤ 200 := by decide +kernel

theorem witness_TimeCommands :
    State.reset.Ready ∧ readTime 200 1 1 0 0 0 = none ∧ readTime 199 12 31 23 59 59 = some ⟨⟨2199, 12, 31⟩, ⟨23, 59⟩, 59⟩ ∧
      State.reset.time.crystalRunning = true ∧ State.reset.time.source = .crystal ∧
      (State.reset.setTimeBase { State.reset.time with crystalRunning := false }).Ready ∧ 1 < (2 : Byte).toNat :=
  ⟨reset_ready, by decide, by decide, rfl, rfl, ready_of rfl rfl, by decide⟩

/-- SET_TIME with an entry alone in the table: its AT instant reached or not, its mark kept or cleared, and a catch-up start found. -/
theorem witness_TimeCommands_alone :
    let s := holding (entry .armed) State.reset
    let t : CalTime := ⟨⟨2031, 3, 10⟩, ⟨23, 0⟩, 0⟩
    s.Alone 5 2 (entry .armed) ∧ s.Ready ∧ evening.trigger.InRange ∧ evening.ending.isTime = true ∧
      claim.endInstant = some ⟨⟨2031, 3, 10⟩, ⟨23, 0⟩⟩ ∧ (⟨⟨2031, 3, 10⟩, ⟨23, 0⟩⟩ : CalMinute).key ≤ (⟨t.date, t.tod⟩ : CalMinute).key ∧
      ¬ (⟨⟨2031, 3, 10⟩, ⟨23, 0⟩⟩ : CalMinute).key ≤ (⟨⟨2031, 3, 10⟩, ⟨22, 59⟩⟩ : CalMinute).key ∧
      (dated none (some ⟨2031, 3, 9⟩) .armed).body.Past t.date ∧ ¬ (dated none (some ⟨2031, 3, 10⟩) .armed).body.Past t.date ∧
      (atTime ⟨⟨2031, 3, 10⟩, ⟨22, 59⟩, 0⟩).WouldStart evening ⟨⟨2031, 3, 10⟩, ⟨18, 30⟩⟩ := by
  refine ⟨⟨rfl, by decide +kernel⟩, ready_of rfl rfl, ?_, rfl, rfl, Nat.le_refl _, by decide +kernel, ⟨_, rfl, by decide +kernel⟩, ?_, ?_⟩
  · exact ⟨by decide, fun _ h => by cases h; decide, nofun, nofun, by decide⟩
  · rintro ⟨_, h, k⟩; cases h; exact absurd k (by decide +kernel)
  · exact ⟨⟨by decide, .inl ⟨rfl, .inl (by decide)⟩⟩, by decide +kernel, by decide +kernel, by decide +kernel⟩

theorem witness_LineCommands :
    State.reset.Ready ∧ (3 : Byte).toNat < 4 ∧ 63 < (64 : Byte).toNat ∧ 4 ≤ (4 : Byte).toNat ∧ (63 : Byte).toNat ≤ 63 :=
  ⟨reset_ready, by decide, by decide, by decide, by decide⟩

theorem witness_SecondBoundaryAdvances :
    (State.reset.elapse 32768).time.time.isReal = true ∧ (State.reset.elapse 32768).supply.stopped = false ∧
      32768 ≤ (State.reset.elapse 32768).time.elapsed ∧ (⟨⟨2199, 12, 31⟩, ⟨23, 59⟩, 59⟩ : CalTime).isReal = true := by decide +kernel

theorem witness_CrystalStopsAndRuns :
    (State.reset.elapse 5).supply.stopped = false ∧ (State.reset.elapse 5).time.crystalRunning = true ∧
      ((State.reset.setTimeBase { State.reset.time with crystalRunning := false }).elapse 5).time.crystalRunning = false := by
  decide +kernel

theorem witness_CrossingsDriveTheLine :
    (State.reset.elapse 0).supply.state ≠ .backup ∧ (State.reset.elapse 0).line.state = .absent ∧
      (State.reset.elapse 0).time.source = .crystal ∧ (locking.elapse 655).line.measureStart = some 0 ∧
      (locking.elapse 655).line.counting = some .fifty ∧ cycleClass 655 = some .fifty ∧ cycleClass 720 = some .fifty ∧
      cycleClass 589 = some .sixty ∧ (locking.elapse 655).line.confirmCount ≤ (locking.elapse 655).line.agreement + 1 ∧
      (locking.elapse 1966).line.absenceFrom + 1966 ≤ (locking.elapse 1966).cycles ∧ (locking.elapse 1966).line.state ≠ .absent ∧
      ((locking.setTimeBase { locking.time with source := .line }).elapse 655).time.preference = .auto := by decide +kernel

/-- The other cycles: OUT on both sides of the classes, the other class, K - 1 and K disagreements, and a hand-over each way. -/
theorem witness_CrossingsDriveTheLine_others :
    let u := locking.elapse 655
    let locked := { u.line with state := LineState.locked, verdict := some .fifty, disagreement := 2 }
    cycleClass 491 = none ∧ cycleClass 721 = none ∧ cycleClass 589 = some .sixty ∧ u.line.counting ≠ some .sixty ∧
      1 < u.line.confirmCount ∧ ({ u.line with agreement := 2 }).agreement + 1 < u.line.confirmCount ∧
      locked.disagreement + 1 < locked.confirmCount ∧ locked.confirmCount ≤ 3 + 1 ∧ u.time.preference = .auto ∧
      (u.setLine locked).line.state = .locked ∧ u.time.source = .crystal ∧ u.time.validity = .valid ∧
      (u.setTimeBase { u.time with source := .line, divisor := some 60, crystalRunning := false }).time.divisor = some 60 := by
  decide +kernel

theorem witness_SupplyCommands : State.reset.Ready ∧ ([0, 0] : List Byte).length ≠ 1 := ⟨reset_ready, by decide⟩

theorem witness_EnterBackupAtEveryBlock :
    (running.elapse 9).supply.state ≠ .backup ∧ (loading.elapse 9).loadRunning = true ∧ (running.elapse 9).loadRunning = false := by
  decide +kernel

theorem witness_BackupLeavesOldOrProgrammedByte :
    (working.elapse 0).supply.state ≠ .backup ∧ (working.elapse 0).StoreOk ∧
      (working.elapse 0).store.programming = some ⟨100, [0x3C, 0x55], 1, 7, 0, false⟩ ∧ ∃ t, exec (.enterBackup 0) working = .next t :=
  ⟨by decide +kernel, ⟨by decide +kernel, fun pr h => by cases h; decide⟩, rfl, _, rfl⟩

theorem witness_MainsReturnAndPowerUp :
    (backedUp.elapse 7).supply.state = .backup ∧ (backedUp.elapse 7).supply.stopped = false ∧
      (backedUp.elapse 7).supply.signatureValid = true ∧ (backedUp.elapse 7).supply.loadPending = false ∧
      0 < (backedUp.elapse 7).supply.restoreDelay ∧ (backedUp.elapse 7).store.array = [] ∧
      ((backedUp.setSupply { backedUp.supply with signatureValid := false }).elapse 7).supply.signatureValid = false ∧
      (backedUp.setSupply { backedUp.supply with stopped := true }).supply.stopped = true := by decide +kernel

theorem witness_RestoreCountdownReachesRun :
    (State.reset.elapse 32768).supply.state = .restoring ∧ (State.reset.elapse 32768).supply.countdown = some (9 + 1) ∧
      (State.reset.elapse 32768).time.crystalRunning = true ∧
      (State.reset.elapse 32768).supply.countdownDue ≤ (State.reset.elapse 32768).cycles ∧
      ((State.reset.setSupply { State.reset.supply with countdown := some 0 }).elapse 0).supply.countdown = some 0 ∧
      ((State.reset.setSupply { State.reset.supply with countdown := some 0 }).elapse 0).EngineOk :=
  ⟨by decide +kernel, by decide +kernel, by decide +kernel, by decide +kernel, by decide +kernel,
    ⟨by decide +kernel, by decide +kernel, by decide +kernel, fun _ => by decide +kernel⟩⟩

theorem witness_ReadStoreReturnsBytes :
    State.reset.Ready ∧ 64 < (65 : Byte).toNat ∧ 2047 < natOf 8 0 ∧ 2048 < natOf 7 255 + (2 : Byte).toNat ∧ (64 : Byte) ≠ 0 ∧
      (64 : Byte).toNat ≤ 64 ∧ natOf 7 192 + (64 : Byte).toNat ≤ 2048 :=
  ⟨reset_ready, by decide, by decide, by decide, by decide, by decide, by decide⟩

theorem witness_ProgramStoreBurnsBytes :
    State.reset.Ready ∧ State.reset.loadRunning = false ∧ natOf 7 224 + (32 : Byte).toNat ≤ 2048 ∧ 32 < (33 : Byte).toNat ∧
      (working.elapse 66).StoreOk ∧ (working.elapse 66).store.programming = some ⟨100, [0x3C, 0x55], 1, 7, 0, false⟩ ∧
      4096 * (1 + 1) ≤ 125 * ((working.elapse 66).osc - 0) ∧ (working.elapse 66).port.requests = [] :=
  ⟨reset_ready, by decide +kernel, by decide, by decide, ⟨by decide +kernel, fun pr h => by cases h; decide⟩, rfl, by decide +kernel,
    by decide +kernel⟩

/-- A store with a good header and one SUPPLY item of restore delay 20 and stagger 2; its CRC-16 calculated by hand from R159. -/
def oneItem : List Host.Cell :=
  let item : List Byte := [7, 2, 20, 2]
  let image := ([0x5A, 0xC3, 1, 0, 1, 0, 4] : List Byte) ++ twoBytes (crc16 item).toNat ++ List.replicate 7 0xFF ++ item
  ((List.range image.length).zip image).filter fun c => c.2 != 0xFF

/-- A load of that store, its one item due. -/
def applying : State :=
  (State.reset.setStore ⟨oneItem, LoadRecord.fresh .host oneItem 0, none⟩).setLoad
    { LoadRecord.fresh .host oneItem 0 with phase := some .apply }

theorem witness_LoadsRun :
    State.reset.Ready ∧ headerTests State.reset.store.array = some .marker ∧ headerTests oneItem = none ∧
      (readHeader oneItem).items ≠ 0 ∧ (applying.elapse 17).store.load.state = .running ∧
      (applying.elapse 17).store.load.phase = some .apply ∧ (applying.elapse 17).store.load.next = some ⟨0, 16⟩ ∧
      (applying.elapse 17).store.load.header = some ⟨1, 4⟩ ∧
      2048 * (0 + 1) ≤ 125 * ((applying.elapse 17).osc - (applying.elapse 17).store.load.startedAt) ∧
      (applyItem 7 [20, 2] (applying.elapse 17)).toOption.map (fun v => (v.supply.restoreDelay, v.engine.stagger)) = some (20, 2) ∧
      (match applyItem 7 [20, 17] (applying.elapse 17) with
        | .ok _ => none
        | .error r => some r) = some .badField := by
  refine ⟨reset_ready, ?_⟩
  decide +kernel

/-- The headers: each test failed in turn on a store whose tests before it pass, and the chain of the one item. -/
theorem witness_LoadsRun_header :
    ItemChain oneItem ⟨1, 4⟩ ∧ readHeader oneItem = ⟨1, 4⟩ ∧ headerTests (writeCell 15 0 oneItem) = some .format ∧
      headerTests (writeCell 2 2 oneItem) = some .format ∧ headerTests (writeCell 5 8 oneItem) = some .length ∧
      headerTests (writeCell 19 3 oneItem) = some .crc ∧ headerTests (writeCell 4 2 oneItem) = some .chain :=
  ⟨⟨[(7, [20, 2])], rfl, by decide, by decide +kernel⟩, by decide +kernel, by decide +kernel, by decide +kernel, by decide +kernel,
    by decide +kernel, by decide +kernel⟩

/-- The items: each type's parameters in range and out of range, at the ends of the ranges. -/
theorem witness_LoadsRun_items :
    (0 : Byte) = 0 ∧ 8 < (9 : Byte).toNat ∧ bodyLengthOk [] = false ∧ bodyLengthOk (writeBody evening) = true ∧
      readBody (writeBody evening) = some evening ∧ readBody (writeBody { evening with channels := 0 }) = none ∧
      State.reset.judge evening ≠ .expired ∧ readChannelNo 15 = some 15 ∧ readChannelNo 16 = none ∧
      readConfig 1 0 1 120 120 8 2 88 = some ⟨.mono, false, true, 120, 120, 8, 600⟩ ∧ (State.reset.chan 15).switch.inFlight = false ∧
      readException 3 31 12 27 31 12 28 = some (.dated ⟨2031, 12, 27⟩ ⟨2031, 12, 28⟩, .x3) ∧ readException 0x7F 31 12 27 31 12 28 = none ∧
      ExceptionRecord.keptOn ⟨.dated ⟨2031, 12, 19⟩ ⟨2031, 12, 19⟩, .x3, .store⟩ arcade.today = false ∧ natOf 3 254 < natOf 3 255 ∧
      readButtonNo 3 = some 3 ∧ readButtonNo 4 = none ∧ readEnding 0 5 160 = some (.after 1440) ∧ readFlag 1 = some true ∧
      (3 : Byte).toNat < 4 ∧ 63 < (64 : Byte).toNat ∧ (16 : Byte).toNat ≤ 16 ∧ 16 < (17 : Byte).toNat ∧
      headerTests ((List.range 7).zip [0x5A, 0xC3, 1, 0, 0, 0, 0]) = none ∧
      (readHeader ((List.range 7).zip [0x5A, 0xC3, 1, 0, 0, 0, 0])).items = 0 := by decide +kernel

theorem witness_IdentifyReplies : State.reset.Ready ∧ ([0] : List Byte) ≠ [] := ⟨reset_ready, by decide⟩

theorem witness_SetNoticeMaskStores : State.reset.Ready ∧ 16 ≤ (16 : Byte).toNat ∧ (15 : Byte).toNat < 16 :=
  ⟨reset_ready, by decide, by decide⟩

theorem witness_ReadChangesDrains : State.reset.Ready ∧ 16 < (17 : Byte).toNat ∧ (16 : Byte) ≠ 0 ∧ (16 : Byte).toNat ≤ 16 :=
  ⟨reset_ready, by decide, by decide, by decide⟩

theorem witness_PortEvents :
    (State.reset.elapse 0).port.csnLow = false ∧ (State.reset.elapse 0).portActive = true ∧
      ((clocking none State.reset).elapse 0).port.transaction = some ⟨⟨0, 4, true, false⟩, none⟩ ∧
      ((clocking none (State.reset.discardFrame)).elapse 0).port.transaction = some ⟨⟨0, 4, true, true⟩, none⟩ ∧
      ((clocking none (State.reset.pushReply ⟨2, 0x72, .ok, []⟩)).elapse 0).port.replies = [⟨2, 0x72, .ok, []⟩] ∧
      (State.reset.elapse 0).port.prstnLow = false ∧
      ((State.reset.setPort { State.reset.port with prstnLow := true }).elapse 0).port.prstnLow = true := by decide +kernel

end Sys2Proof.Tests
end

/-! The rules about the shared operations that the proofs below use: a pass over a list, what an operation may touch, and what the
claim operations leave on each channel. -/

section
namespace Sys2Proof.Machine

/-! ## A pass over a list -/

theorem forEach_nil {α : Type} (s : State) (f : State → α → State) : s.forEach [] f = s := rfl

theorem forEach_cons {α : Type} (s : State) (a : α) (l : List α) (f : State → α → State) :
    s.forEach (a :: l) f = (f s a).forEach l f := rfl

/-- What each doing keeps, the pass keeps. -/
theorem forEach_keeps {α : Type} {P : State → Prop} {l : List α} {f : State → α → State}
    (hf : ∀ s, ∀ a ∈ l, P s → P (f s a)) {s : State} (h : P s) : P (s.forEach l f) := by
  induction l generalizing s with
  | nil => exact h
  | cons a l ih => exact ih (fun s b hb => hf s b (by simp [hb])) (hf s a (by simp) h)

/-- A pass whose every doing rewrites one channel's claims, by a rule that rests on that list alone, rewrites the claims of the channels
of its list so, each once. -/
theorem forEach_claims {l : List Chan} (hl : l.Nodup) {f : State → Chan → State} {g : List Claim → List Claim}
    (hf : ∀ s c d, ((f s c).chan d).claims = if c = d then g (s.chan c).claims else (s.chan d).claims) (s : State) (d : Chan) :
    ((s.forEach l f).chan d).claims = if d ∈ l then g (s.chan d).claims else (s.chan d).claims := by
  induction l generalizing s with
  | nil => simp [forEach_nil]
  | cons c l ih =>
    obtain ⟨hc, hl⟩ := List.nodup_cons.mp hl
    rw [forEach_cons, ih hl, hf]
    by_cases hd : c = d
    · subst hd; simp [hc]
    · simp [hd, Ne.symm hd]

theorem channelsOf_nodup (w : Word) : (channelsOf w).Nodup := (List.nodup_finRange 16).filter _

theorem mem_allChannels (c : Chan) : c ∈ allChannels := List.mem_finRange c

theorem mem_allSlots (i : SlotNo) : i ∈ allSlots := List.mem_finRange i

/-! ## The states of an entry -/

theorem exists_of_isActive {x : EntryState} (h : x.isActive = true) : ∃ k m, x = .active k m := by
  cases x with
  | active k m => exact ⟨k, m, rfl⟩
  | _ => cases h

theorem isActive_of_isEnded {x : EntryState} (h : x.isEnded = true) : x.isActive = false := by
  cases x with
  | ended => rfl
  | _ => cases h

/-! ## The change set grows -/

theorem reports_addReasons {k k' : ChangeKind} {n n' b : Nat} {r : Word} {l : List ChangeItem}
    (h : ∃ x ∈ l, x.kind = k ∧ x.index = n ∧ x.reasons.getLsbD b = true) :
    ∃ x ∈ addReasons k' n' r l, x.kind = k ∧ x.index = n ∧ x.reasons.getLsbD b = true := by
  induction l with
  | nil => simp at h
  | cons y ys ih =>
    obtain ⟨x, hx, hk, hn, hb⟩ := h
    unfold addReasons
    split
    · exact ⟨x, List.mem_cons_of_mem _ hx, hk, hn, hb⟩
    · split
      · obtain rfl | hx := List.mem_cons.mp hx
        · exact ⟨_, List.mem_cons_self, by simp_all⟩
        · exact ⟨x, List.mem_cons_of_mem _ hx, hk, hn, hb⟩
      · obtain rfl | hx := List.mem_cons.mp hx
        · exact ⟨x, List.mem_cons_self, hk, hn, hb⟩
        · obtain ⟨z, hz, h⟩ := ih ⟨x, hx, hk, hn, hb⟩
          exact ⟨z, List.mem_cons_of_mem _ hz, h⟩

theorem addReasons_reports {k : ChangeKind} {n b : Nat} {r : Word} (l : List ChangeItem) (hb : r.getLsbD b = true) :
    ∃ x ∈ addReasons k n r l, x.kind = k ∧ x.index = n ∧ x.reasons.getLsbD b = true := by
  induction l with
  | nil => exact ⟨_, List.mem_singleton_self _, rfl, rfl, hb⟩
  | cons y ys ih =>
    unfold addReasons
    split
    · exact ⟨_, List.mem_cons_self, rfl, rfl, hb⟩
    · split
      · exact ⟨_, List.mem_cons_self, rfl, rfl, by simp [hb]⟩
      · obtain ⟨z, hz, h⟩ := ih
        exact ⟨z, List.mem_cons_of_mem _ hz, h⟩

/-- A reason raised is reported. -/
theorem raise_reports (s : State) (k : ChangeKind) (n : Nat) {b : Nat} {r : Word} (hb : r.getLsbD b = true) :
    (s.raise k n r).Reports k n b := addReasons_reports _ hb

/-- A reason reported stays reported when another is raised. -/
theorem raise_keeps_reports {s : State} {k : ChangeKind} {n b : Nat} (k' : ChangeKind) (n' : Nat) (r : Word)
    (h : s.Reports k n b) : (s.raise k' n' r).Reports k n b := reports_addReasons h

/-! ## What an operation touches -/

/-- An operation of the Claim Manager on the channels in `C`: the table, the calendar, the pool, the configurations and every other
channel stand, and the change set only grows. -/
structure State.OnChannels (C : Chan → Prop) (s t : State) : Prop where
  same : s.SameElsewhere t
  table : t.table = s.table
  calendar : t.calendar = s.calendar
  freeCount : t.freeCount = s.freeCount
  config : ∀ d, (t.chan d).config = (s.chan d).config
  others : ∀ d, ¬ C d → t.chan d = s.chan d
  reports : ∀ k n b, s.Reports k n b → t.Reports k n b

/-- An operation on the slot `i` and the channels in `C`: every other slot and channel, the calendar and the configurations stand, and
the change set only grows. -/
structure State.Touches (i : SlotNo) (C : Chan → Prop) (s t : State) : Prop where
  same : s.SameElsewhere t
  calendar : t.calendar = s.calendar
  config : ∀ d, (t.chan d).config = (s.chan d).config
  slots : ∀ j, j ≠ i → t.slot j = s.slot j
  others : ∀ d, ¬ C d → t.chan d = s.chan d
  reports : ∀ k n b, s.Reports k n b → t.Reports k n b

section
variable {i : SlotNo} {C D : Chan → Prop} {s t u : State}

theorem State.OnChannels.refl (s : State) : s.OnChannels C s :=
  ⟨.refl s, rfl, rfl, rfl, fun _ => rfl, fun _ _ => rfl, fun _ _ _ h => h⟩

theorem State.OnChannels.trans (h : s.OnChannels C t) (k : t.OnChannels C u) : s.OnChannels C u where
  same := h.same.trans k.same
  table := k.table.trans h.table
  calendar := k.calendar.trans h.calendar
  freeCount := k.freeCount.trans h.freeCount
  config d := (k.config d).trans (h.config d)
  others d hd := (k.others d hd).trans (h.others d hd)
  reports a n b hr := k.reports a n b (h.reports a n b hr)

theorem State.OnChannels.mono (h : s.OnChannels C t) (hC : ∀ d, C d → D d) : s.OnChannels D t :=
  { h with others := fun d hd => h.others d fun hc => hd (hC d hc) }

theorem State.OnChannels.forEach {l : List Chan} {f : State → Chan → State} (hC : ∀ c ∈ l, C c)
    (hf : ∀ (s : State) (c : Chan), s.OnChannels (· = c) (f s c)) (s : State) : s.OnChannels C (s.forEach l f) :=
  forEach_keeps (fun t c hc ht => ht.trans ((hf t c).mono fun _ h => h ▸ hC c hc)) (.refl s)

theorem State.OnChannels.slot (h : s.OnChannels C t) (j : SlotNo) : t.slot j = s.slot j := by
  simp only [State.slot, h.table]

theorem State.OnChannels.now (h : s.OnChannels C t) : t.now = s.now := by simp only [State.now, h.same.time]

theorem State.OnChannels.touches (h : s.OnChannels C t) (i : SlotNo) : s.Touches i C t :=
  ⟨h.same, h.calendar, h.config, fun j _ => h.slot j, h.others, h.reports⟩

theorem State.Touches.refl (s : State) : s.Touches i C s :=
  ⟨.refl s, rfl, fun _ => rfl, fun _ _ => rfl, fun _ _ => rfl, fun _ _ _ h => h⟩

theorem State.Touches.trans (h : s.Touches i C t) (k : t.Touches i C u) : s.Touches i C u where
  same := h.same.trans k.same
  calendar := k.calendar.trans h.calendar
  config d := (k.config d).trans (h.config d)
  slots j hj := (k.slots j hj).trans (h.slots j hj)
  others d hd := (k.others d hd).trans (h.others d hd)
  reports a n b hr := k.reports a n b (h.reports a n b hr)

theorem State.Touches.mono (h : s.Touches i C t) (hC : ∀ d, C d → D d) : s.Touches i D t :=
  { h with others := fun d hd => h.others d fun hc => hd (hC d hc) }

theorem State.Touches.now (h : s.Touches i C t) : t.now = s.now := by simp only [State.now, h.same.time]

theorem State.Touches.today (h : s.Touches i C t) : t.today = s.today := by simp only [State.today, h.same.time]

end

/-! ## Raising a reason, and the parts of a slot -/

theorem raise_onChannels (s : State) {C : Chan → Prop} (k : ChangeKind) (n : Nat) (r : Word) :
    s.OnChannels C (s.raise k n r) :=
  ⟨raise_same s k n r, rfl, rfl, rfl, fun _ => rfl, fun _ _ => rfl, fun _ _ _ h => raise_keeps_reports k n r h⟩

theorem raise_touches (s : State) (i : SlotNo) {C : Chan → Prop} (k : ChangeKind) (n : Nat) (r : Word) :
    s.Touches i C (s.raise k n r) := (raise_onChannels s k n r).touches i

theorem setSlot_touches (s : State) (i : SlotNo) {C : Chan → Prop} (x : Slot) : s.Touches i C (s.setSlot i x) where
  same := setSlot_same s i x
  calendar := rfl
  config _ := rfl
  slots j hj := by rw [slot_setSlot, if_neg (Ne.symm hj)]
  others _ _ := rfl
  reports _ _ _ h := h

theorem setEntry_touches (s : State) (i : SlotNo) {C : Chan → Prop} (e : Entry) : s.Touches i C (s.setEntry i e) :=
  setSlot_touches s i _

/-- An entry just written is in its slot at the slot's generation; no other slot moves. -/
theorem slot_setEntry (s : State) (i j : SlotNo) (e : Entry) :
    (s.setEntry i e).slot j = if i = j then ⟨(s.slot i).generation, some e⟩ else s.slot j := slot_setSlot s i j _

@[simp] theorem setEntry_chan (s : State) (i : SlotNo) (e : Entry) (c : Chan) : (s.setEntry i e).chan c = s.chan c := rfl
@[simp] theorem setSlot_chan (s : State) (i : SlotNo) (x : Slot) (c : Chan) : (s.setSlot i x).chan c = s.chan c := rfl
@[simp] theorem setEntry_endedOrder (s : State) (i : SlotNo) (e : Entry) :
    (s.setEntry i e).table.endedOrder = s.table.endedOrder := rfl
@[simp] theorem setFreeCount_slot (s : State) (n : Nat) (i : SlotNo) : (s.setFreeCount n).slot i = s.slot i := rfl
@[simp] theorem setFreeCount_chan (s : State) (n : Nat) (c : Chan) : (s.setFreeCount n).chan c = s.chan c := rfl
@[simp] theorem setFreeCount_now (s : State) (n : Nat) : (s.setFreeCount n).now = s.now := rfl

theorem slot_setEntry_self (s : State) (i : SlotNo) (e : Entry) :
    (s.setEntry i e).slot i = ⟨(s.slot i).generation, some e⟩ := by rw [slot_setEntry, if_pos rfl]

theorem toEnded_touches (s : State) (i : SlotNo) {C : Chan → Prop} (e : Entry) (r : EndReason) :
    s.Touches i C (s.toEnded i e r) :=
  (setEntry_touches s i _).trans ⟨setTable_same _ _, rfl, fun _ => rfl, fun _ _ => rfl, fun _ _ => rfl, fun _ _ _ h => h⟩

theorem toEnded_slot (s : State) (i : SlotNo) (e : Entry) (r : EndReason) :
    (s.toEnded i e r).slot i = ⟨(s.slot i).generation, some { e with state := .ended r s.now }⟩ := slot_setEntry_self s i _

@[simp] theorem toEnded_chan (s : State) (i : SlotNo) (e : Entry) (r : EndReason) (c : Chan) :
    (s.toEnded i e r).chan c = s.chan c := rfl
@[simp] theorem toEnded_freeCount (s : State) (i : SlotNo) (e : Entry) (r : EndReason) :
    (s.toEnded i e r).freeCount = s.freeCount := rfl

theorem mem_insertEnded (key : SlotNo → Nat) (i j : SlotNo) (l : List SlotNo) : j ∈ insertEnded key i l ↔ j = i ∨ j ∈ l := by
  induction l with
  | nil => simp [insertEnded]
  | cons x xs ih =>
    unfold insertEnded
    split
    · simp
    · simp [ih, or_left_comm]

theorem mem_endedOrder_toEnded (s : State) (i : SlotNo) (e : Entry) (r : EndReason) (j : SlotNo) :
    j ∈ (s.toEnded i e r).table.endedOrder ↔ j = i ∨ j ∈ s.table.endedOrder := mem_insertEnded _ _ _ _

theorem clearSlot_touches (s : State) (i : SlotNo) {C : Chan → Prop} : s.Touches i C (s.clearSlot i) :=
  (setSlot_touches s i _).trans ⟨setTable_same _ _, rfl, fun _ => rfl, fun _ _ => rfl, fun _ _ => rfl, fun _ _ _ h => h⟩

theorem clearSlot_slot (s : State) (i : SlotNo) : (s.clearSlot i).slot i = ⟨(s.slot i).generation + 1, none⟩ := by
  show (s.setSlot i _).slot i = _
  rw [slot_setSlot, if_pos rfl]

theorem clearSlot_endedOrder (s : State) (i : SlotNo) :
    (s.clearSlot i).table.endedOrder = s.table.endedOrder.filter (· != i) := rfl

@[simp] theorem clearSlot_chan (s : State) (i : SlotNo) (c : Chan) : (s.clearSlot i).chan c = s.chan c := rfl
@[simp] theorem clearSlot_freeCount (s : State) (i : SlotNo) : (s.clearSlot i).freeCount = s.freeCount := rfl

/-! ## Claims and targets of one channel -/

theorem chan_setClaims (s : State) (c d : Chan) (l : List Claim) :
    (s.setClaims c l).chan d = if c = d then { s.chan c with claims := l } else s.chan d := chan_setChan s c d _

theorem setChan_onChannels (s : State) (c : Chan) {x : Channel} (hx : x.config = (s.chan c).config) :
    s.OnChannels (· = c) (s.setChan c x) where
  same := setChan_same s c x
  table := rfl
  calendar := rfl
  freeCount := rfl
  config d := by rw [chan_setChan]; split <;> simp_all
  others d hd := by rw [chan_setChan, if_neg (Ne.symm hd)]
  reports _ _ _ h := h

theorem setClaims_onChannels (s : State) (c : Chan) (l : List Claim) : s.OnChannels (· = c) (s.setClaims c l) :=
  setChan_onChannels s c rfl

theorem setQueue_onChannels (s : State) {C : Chan → Prop} (q : List Chan) :
    s.OnChannels C (s.setEngine { s.engine with queue := q }) :=
  ⟨setQueue_same s q, rfl, rfl, rfl, fun _ => rfl, fun _ _ => rfl, fun _ _ _ h => h⟩

theorem setSwitch_onChannels (s : State) (c : Chan) (x : SwitchState) : s.OnChannels (· = c) (s.setSwitch c x) :=
  setChan_onChannels s c rfl

theorem enqueue_onChannels (s : State) (c : Chan) : s.OnChannels (· = c) (s.enqueue c) :=
  (setSwitch_onChannels s c .queued).trans (setQueue_onChannels _ _)

theorem dequeue_onChannels (s : State) (c : Chan) : s.OnChannels (· = c) (s.dequeue c) :=
  (setSwitch_onChannels s c .idle).trans (setQueue_onChannels _ _)

theorem targetArrives_cases (s : State) (c : Chan) (t : Bool) :
    s.targetArrives c t = s ∨ s.targetArrives c t = s.enqueue c ∨ s.targetArrives c t = s.dequeue c := by
  unfold State.targetArrives
  dsimp only
  repeat' split
  all_goals simp

theorem targetArrives_onChannels (s : State) (c : Chan) (t : Bool) : s.OnChannels (· = c) (s.targetArrives c t) := by
  obtain h | h | h := targetArrives_cases s c t <;> rw [h]
  · exact .refl s
  · exact enqueue_onChannels s c
  · exact dequeue_onChannels s c

theorem retarget_onChannels (s : State) (c : Chan) : s.OnChannels (· = c) (s.retarget c) := by
  unfold State.retarget
  dsimp only
  split
  · exact .refl s
  · refine State.OnChannels.trans ?_ (targetArrives_onChannels _ _ _)
    exact (setChan_onChannels s c (by rfl)).trans (raise_onChannels _ _ _ _)

theorem retargetAll_onChannels (s : State) (cs : List Chan) : s.OnChannels (· ∈ cs) (s.retargetAll cs) :=
  .forEach (fun _ h => h) retarget_onChannels s

theorem dropOverride_onChannels (s : State) (c : Chan) : s.OnChannels (· = c) (s.dropOverride c) := by
  unfold State.dropOverride
  split
  · exact (setClaims_onChannels s c _).trans (raise_onChannels _ _ _ _)
  · exact .refl s

theorem endUntilNext_onChannels (s : State) (c : Chan) : s.OnChannels (· = c) (s.endUntilNext c) := by
  unfold State.endUntilNext
  split
  · exact dropOverride_onChannels s c
  · exact .refl s

/-- A change of the switch state leaves the claims, the target and the configuration of every channel. -/
theorem chan_setSwitch (s : State) (c d : Chan) (x : SwitchState) :
    (s.setSwitch c x).chan d = if c = d then { s.chan c with switch := x } else s.chan d := chan_setChan s c d _

theorem targetArrives_claims (s : State) (c d : Chan) (t : Bool) : ((s.targetArrives c t).chan d).claims = (s.chan d).claims := by
  have h (x : SwitchState) : ((s.setSwitch c x).chan d).claims = (s.chan d).claims := by
    rw [chan_setSwitch]; split <;> simp_all
  obtain e | e | e := targetArrives_cases s c t <;> rw [e]
  · exact h .queued
  · exact h .idle

theorem targetArrives_target (s : State) (c d : Chan) (t : Bool) : ((s.targetArrives c t).chan d).target = (s.chan d).target := by
  have h (x : SwitchState) : ((s.setSwitch c x).chan d).target = (s.chan d).target := by
    rw [chan_setSwitch]; split <;> simp_all
  obtain e | e | e := targetArrives_cases s c t <;> rw [e]
  · exact h .queued
  · exact h .idle

@[simp] theorem retarget_claims (s : State) (c d : Chan) : ((s.retarget c).chan d).claims = (s.chan d).claims := by
  unfold State.retarget
  dsimp only
  split
  · rfl
  · rw [targetArrives_claims, State.raiseChannel_chan, chan_setChan]
    split <;> simp_all

/-- The target that a channel's list and rest state call for (R62). -/
def Channel.wanted (ch : Channel) : Bool := targetOf ch.claims ch.config.rest

theorem retarget_target (s : State) (c d : Chan) :
    ((s.retarget c).chan d).target = if c = d then (s.chan c).wanted else (s.chan d).target := by
  unfold State.retarget
  dsimp only
  split
  · rename_i h
    split
    · rename_i hd; subst hd; exact h.symm
    · rfl
  · rw [targetArrives_target, State.raiseChannel_chan, chan_setChan]
    split <;> rfl

@[simp] theorem retargetAll_claims (s : State) (cs : List Chan) (d : Chan) :
    ((s.retargetAll cs).chan d).claims = (s.chan d).claims :=
  forEach_keeps (P := fun t => (t.chan d).claims = (s.chan d).claims) (fun t c _ h => (retarget_claims t c d).trans h) rfl

theorem State.OnChannels.wanted {C : Chan → Prop} {s t : State} (h : s.OnChannels C t) {d : Chan}
    (hd : (t.chan d).claims = (s.chan d).claims) : (t.chan d).wanted = (s.chan d).wanted := by
  simp only [Channel.wanted, hd, h.config]

/-- The end of an operation leaves each of its channels at the target called for, and every other where it stood (R62, R63). -/
theorem retargetAll_target (s : State) (cs : List Chan) (d : Chan) :
    ((s.retargetAll cs).chan d).target = if d ∈ cs then (s.chan d).wanted else (s.chan d).target := by
  unfold State.retargetAll
  induction cs generalizing s with
  | nil => simp [forEach_nil]
  | cons c cs ih =>
    have hw : ((s.retarget c).chan d).wanted = (s.chan d).wanted :=
      (retarget_onChannels s c).wanted (retarget_claims s c d)
    rw [forEach_cons, ih, hw, retarget_target]
    by_cases hd : c = d
    · subst hd; simp
    · simp [hd, Ne.symm hd]

/-- After the end of an operation a channel of it has the target that its own list and rest state call for. -/
theorem retargetAll_wanted (s : State) {cs : List Chan} {d : Chan} (hd : d ∈ cs) :
    ((s.retargetAll cs).chan d).target = ((s.retargetAll cs).chan d).wanted := by
  rw [retargetAll_target, if_pos hd, (retargetAll_onChannels s cs).wanted (retargetAll_claims s cs d)]

/-! ## Overrides on a list (R68, R70) -/

/-- A list without its override. -/
def withoutOverride (l : List Claim) : List Claim := l.filter fun x => !x.isOverride

/-- A list after the addition or removal of a schedule claim: an UNTIL_NEXT override has ended (R70). -/
def withoutUntilNext (l : List Claim) : List Claim := if l.any Claim.isUntilNext then withoutOverride l else l

theorem dropOverride_claims (s : State) (c d : Chan) :
    ((s.dropOverride c).chan d).claims = if c = d then withoutOverride (s.chan c).claims else (s.chan d).claims := by
  unfold State.dropOverride
  split
  · rw [State.raiseChannel_chan, chan_setClaims]
    split <;> simp_all [withoutOverride]
  · rename_i h
    split
    · rename_i hd
      subst hd
      refine (List.filter_eq_self.mpr fun x hx => ?_).symm
      simp only [Bool.not_eq_true, List.any_eq_false] at h
      simpa using h x hx
    · rfl

theorem endUntilNext_claims (s : State) (c d : Chan) :
    ((s.endUntilNext c).chan d).claims = if c = d then withoutUntilNext (s.chan c).claims else (s.chan d).claims := by
  unfold State.endUntilNext withoutUntilNext
  split
  · exact dropOverride_claims s c d
  · split <;> simp_all

theorem withoutUntilNext_sublist (l : List Claim) : (withoutUntilNext l).Sublist l := by
  unfold withoutUntilNext
  split
  · exact List.filter_sublist
  · exact List.Sublist.refl l

/-- A claim of another kind than an override stays when an UNTIL_NEXT override ends. -/
theorem mem_withoutUntilNext {l : List Claim} {x : Claim} (hx : x.isOverride = false) :
    x ∈ withoutUntilNext l ↔ x ∈ l := by
  unfold withoutUntilNext withoutOverride
  split <;> simp [hx]

theorem isOverride_of_isSchedule {x : Claim} (h : x.isSchedule = true) : x.isOverride = false := by
  cases hk : x.kind <;> simp_all [Claim.isSchedule, Claim.isOverride]

theorem isSchedule_of_isOf {i : SlotNo} {x : Claim} (h : x.isOf i = true) : x.isSchedule = true := by
  cases hk : x.kind <;> simp_all [Claim.isOf, Claim.isSchedule]

theorem isOverride_of_isHold {x : Claim} (h : x.isHold = true) : x.isOverride = false := by
  cases hk : x.kind <;> simp_all [Claim.isHold, Claim.isOverride]

theorem isOf_of_isHold {x : Claim} (i : SlotNo) (h : x.isHold = true) : x.isOf i = false := by
  cases hk : x.kind <;> simp_all [Claim.isHold, Claim.isOf]

/-! ## Schedule claims (R65 to R67) -/

/-- The schedule claim of an entry that starts (R60, R65). -/
def EntryBody.claim (b : EntryBody) (i : SlotNo) (gen : Byte) (start : CalMinute) : Claim :=
  ⟨.schedule i gen b.priority, b.action, start⟩

/-- A list with a schedule claim added to it (R65, R70). -/
def withClaim (x : Claim) (l : List Claim) : List Claim := withoutUntilNext (insertClaim x l)

/-- A list with the claims of a slot taken off it (R67, R70). -/
def withoutClaims (i : SlotNo) (l : List Claim) : List Claim :=
  if l.any (Claim.isOf i) then withoutUntilNext (l.filter fun x => !x.isOf i) else l

/-- A list with the claims of a slot renewed (R66). -/
def renewed (i : SlotNo) (start : CalMinute) (l : List Claim) : List Claim :=
  (l.filter (Claim.isOf i)).foldl (fun l x => insertClaim { x with start := start } l) (l.filter fun x => !x.isOf i)

theorem placeClaims_onChannels (s : State) (i : SlotNo) (b : EntryBody) (m : CalMinute) :
    (s.setFreeCount (s.freeCount - setSize b.channels)).OnChannels (· ∈ channelsOf b.channels) (s.placeClaims i b m) :=
  (State.OnChannels.forEach (fun _ h => h)
    (fun s c => (setClaims_onChannels s c _).trans (endUntilNext_onChannels _ c)) _).trans (retargetAll_onChannels _ _)

theorem placeClaims_claims (s : State) (i : SlotNo) (b : EntryBody) (m : CalMinute) (d : Chan) :
    ((s.placeClaims i b m).chan d).claims =
      if d ∈ channelsOf b.channels then withClaim (b.claim i (s.slot i).generation m) (s.chan d).claims
      else (s.chan d).claims := by
  unfold State.placeClaims
  dsimp only
  rw [retargetAll_claims, forEach_claims (channelsOf_nodup _) (g := withClaim (b.claim i (s.slot i).generation m))]
  · rfl
  · intro s c d
    rw [endUntilNext_claims, chan_setClaims, if_pos rfl, chan_setClaims]
    split <;> simp_all [withClaim, EntryBody.claim]

theorem renewClaims_onChannels (s : State) (i : SlotNo) (b : EntryBody) (m : CalMinute) :
    s.OnChannels (· ∈ channelsOf b.channels) (s.renewClaims i b m) :=
  (State.OnChannels.forEach (fun _ h => h) (fun s c => setClaims_onChannels s c _) _).trans (retargetAll_onChannels _ _)

theorem renewClaims_claims (s : State) (i : SlotNo) (b : EntryBody) (m : CalMinute) (d : Chan) :
    ((s.renewClaims i b m).chan d).claims =
      if d ∈ channelsOf b.channels then renewed i m (s.chan d).claims else (s.chan d).claims := by
  unfold State.renewClaims
  dsimp only
  rw [retargetAll_claims, forEach_claims (channelsOf_nodup _) (g := renewed i m)]
  intro s c d
  rw [chan_setClaims]
  split <;> simp_all [renewed]

theorem takeClaims_onChannels (s : State) (i : SlotNo) (b : EntryBody) :
    (s.setFreeCount (s.freeCount + setSize b.channels)).OnChannels (· ∈ channelsOf b.channels) (s.takeClaims i b) := by
  refine State.OnChannels.forEach (fun _ h => h) (fun s c => ?_) _
  split
  · exact (setClaims_onChannels s c _).trans (endUntilNext_onChannels _ c)
  · exact .refl s

theorem takeClaims_claims (s : State) (i : SlotNo) (b : EntryBody) (d : Chan) :
    ((s.takeClaims i b).chan d).claims =
      if d ∈ channelsOf b.channels then withoutClaims i (s.chan d).claims else (s.chan d).claims := by
  unfold State.takeClaims
  dsimp only
  rw [forEach_claims (channelsOf_nodup _) (g := withoutClaims i)]
  · rfl
  · intro s c d
    unfold withoutClaims
    split
    · rw [endUntilNext_claims, chan_setClaims, if_pos rfl, chan_setClaims]
      split <;> simp_all
    · split <;> simp_all

theorem removeClaims_onChannels (s : State) (i : SlotNo) (b : EntryBody) :
    (s.setFreeCount (s.freeCount + setSize b.channels)).OnChannels (· ∈ channelsOf b.channels) (s.removeClaims i b) :=
  (takeClaims_onChannels s i b).trans (retargetAll_onChannels _ _)

theorem removeClaims_claims (s : State) (i : SlotNo) (b : EntryBody) (d : Chan) :
    ((s.removeClaims i b).chan d).claims =
      if d ∈ channelsOf b.channels then withoutClaims i (s.chan d).claims else (s.chan d).claims := by
  unfold State.removeClaims
  rw [retargetAll_claims, takeClaims_claims]

/-- A schedule claim just added is on the list. -/
theorem mem_withClaim_self {x : Claim} (hx : x.isOverride = false) (l : List Claim) : x ∈ withClaim x l :=
  (mem_withoutUntilNext hx).mpr ((mem_insertClaim x x l).mpr (.inl rfl))

/-- No claim of a slot is left on a list it was taken off. -/
theorem isOf_of_mem_withoutClaims {i : SlotNo} {l : List Claim} {x : Claim} (h : x ∈ withoutClaims i l) : x.isOf i = false := by
  unfold withoutClaims at h
  split at h
  · simpa using (List.mem_filter.mp ((withoutUntilNext_sublist _).subset h)).2
  · rename_i hn
    simp only [Bool.not_eq_true, List.any_eq_false] at hn
    simpa using hn x h

theorem removeClaims_noClaims (s : State) (i : SlotNo) (b : EntryBody) : (s.removeClaims i b).NoClaims i b.channels := by
  intro c hc x hx
  rw [removeClaims_claims, if_pos hc] at hx
  exact isOf_of_mem_withoutClaims hx

end Sys2Proof.Machine
end

/-! The invariant of the claim lists, the pool and the ENDED order (R15, R60, R61, R64), taken apart by slots: a slot that takes no part,
its claims taken off the lists, and a slot that takes its part again. -/

section
namespace Sys2Proof.Machine

/-! ## One claim list -/

/-- A claim list in its order, with at most one hold and one override (R61). -/
structure ListOk (l : List Claim) : Prop where
  order : l.Pairwise fun x y => y.before x = false
  holds : l.countP Claim.isHold ≤ 1
  overrides : l.countP Claim.isOverride ≤ 1

theorem ListOk.sublist {l m : List Claim} (h : ListOk l) (hm : m.Sublist l) : ListOk m :=
  ⟨h.order.sublist hm, (hm.countP_le).trans h.holds, (hm.countP_le).trans h.overrides⟩

/-- The schedule claims of a list. -/
def scheduled (l : List Claim) : List Claim := l.filter Claim.isSchedule

theorem mem_scheduled {l : List Claim} {x : Claim} (hx : x.isSchedule = true) : x ∈ scheduled l ↔ x ∈ l := by
  simp [scheduled, hx]

/-- A count of claims of the schedule is a count over the schedule claims alone. -/
theorem countP_scheduled {p : Claim → Bool} (hp : ∀ x, p x = true → x.isSchedule = true) (l : List Claim) :
    (scheduled l).countP p = l.countP p := by
  rw [scheduled, List.countP_filter]
  refine List.countP_congr fun x _ => ⟨fun h => ?_, fun h => ?_⟩
  · simp only [Bool.and_eq_true] at h; exact h.1
  · simp [h, hp x h]

theorem countP_isSchedule (l : List Claim) : l.countP Claim.isSchedule = (scheduled l).length := by
  rw [scheduled, List.countP_eq_length_filter]

theorem insertClaim_perm (x : Claim) (l : List Claim) : (insertClaim x l).Perm (x :: l) := by
  induction l with
  | nil => exact .refl _
  | cons y ys ih =>
    unfold insertClaim
    split
    · exact .refl _
    · exact (ih.cons y).trans (.swap x y ys)

theorem scheduled_withoutOverride (l : List Claim) : scheduled (withoutOverride l) = scheduled l := by
  rw [scheduled, withoutOverride, List.filter_filter]
  refine List.filter_congr fun x _ => ?_
  cases h : x.isSchedule
  · rfl
  · simp [isOverride_of_isSchedule h]

theorem scheduled_withoutUntilNext (l : List Claim) : scheduled (withoutUntilNext l) = scheduled l := by
  unfold withoutUntilNext
  split
  · exact scheduled_withoutOverride l
  · rfl

theorem scheduled_insertClaim {x : Claim} (hx : x.isSchedule = false) (l : List Claim) :
    scheduled (insertClaim x l) = scheduled l := by
  induction l with
  | nil => simp [scheduled, insertClaim, hx]
  | cons y ys ih =>
    unfold insertClaim
    split
    · simp [scheduled, hx]
    · simp only [scheduled, List.filter_cons] at ih ⊢
      rw [ih]

theorem ListOk.insert_schedule {l : List Claim} (h : ListOk l) {x : Claim} (hx : x.isSchedule = true) :
    ListOk (insertClaim x l) where
  order := insertClaim_ordered x h.order
  holds := by
    have hh : x.isHold = false := by cases hk : x.kind <;> simp_all [Claim.isSchedule, Claim.isHold]
    simpa [countP_insertClaim, hh] using h.holds
  overrides := by simpa [countP_insertClaim, isOverride_of_isSchedule hx] using h.overrides

/-! ## The slots' parts -/

/-- What the invariant asks for a slot: the claims of its handle are its entry's, an ACTIVE entry has one on each channel of its set,
and the ENDED order lists it exactly when it is ENDED. -/
structure State.SlotOk (s : State) (i : SlotNo) : Prop where
  owned : ∀ c, ∀ x ∈ (s.chan c).claims, x.isOf i = true → s.owns c x = true
  claimed : ∀ c, ((s.slot i).entry.any fun e => e.state.isActive && (channelsOf e.body.channels).contains c) = true →
    (s.chan c).claims.countP (Claim.isOf i) = 1
  ended : i ∈ s.table.endedOrder ↔ ((s.slot i).entry.any fun e => e.state.isEnded) = true

/-- The ENDED order is in its order (R15). -/
def State.EndedSorted (s : State) : Prop := s.table.endedOrder.Pairwise fun i j => s.endedKey i < s.endedKey j

/-- The pool is the records free and those that the claims held have drawn (R64). -/
def State.PoolOk (s : State) : Prop := s.freeCount + s.scheduleClaims = Config.poolRecords

/-- The invariant with slot `i` taking no part in it: no claim is of `i`, and the ENDED order does not list it. -/
structure State.VacantOk (s : State) (i : SlotNo) : Prop where
  lists : ∀ c, ListOk (s.chan c).claims
  pool : s.PoolOk
  slots : ∀ j, j ≠ i → s.SlotOk j
  unclaimed : ∀ c, ∀ x ∈ (s.chan c).claims, x.isOf i = false
  unlisted : i ∉ s.table.endedOrder
  sorted : s.EndedSorted

theorem scheduleOk_iff (s : State) :
    s.ScheduleOk ↔ (∀ c, ListOk (s.chan c).claims) ∧ s.PoolOk ∧ (∀ i, s.SlotOk i) ∧ s.EndedSorted := by
  constructor
  · intro h
    exact ⟨fun c => ⟨h.order c, h.holds c, h.overrides c⟩, h.pool,
      fun i => ⟨fun c x hx _ => h.owned c x hx, h.claimed i, h.ended i⟩, h.endedOrder⟩
  · rintro ⟨hl, hp, hs, ho⟩
    refine ⟨fun c => (hl c).order, fun c => (hl c).holds, fun c => (hl c).overrides, fun c x hx => ?_,
      fun i => (hs i).claimed, hp, fun i => (hs i).ended, ho⟩
    cases hk : x.kind with
    | schedule i gen p => exact (hs i).owned c x hx (by simp [Claim.isOf, hk])
    | _ => simp [State.owns, hk]

theorem ScheduleOk.lists {s : State} (h : s.ScheduleOk) (c : Chan) : ListOk (s.chan c).claims := ((scheduleOk_iff s).mp h).1 c
theorem ScheduleOk.slotOk {s : State} (h : s.ScheduleOk) (i : SlotNo) : s.SlotOk i := ((scheduleOk_iff s).mp h).2.2.1 i

/-- What a claim of slot `i` asks of its owner rests on that slot alone. -/
theorem owns_congr {s t : State} {i : SlotNo} (h : t.slot i = s.slot i) (c : Chan) {x : Claim} (hx : x.isOf i = true) :
    t.owns c x = s.owns c x := by
  cases hk : x.kind with
  | schedule j gen p =>
    have hj : j = i := by simpa [Claim.isOf, hk] using hx
    subst hj
    simp [State.owns, hk, h]
  | _ => simp [Claim.isOf, hk] at hx

/-- A claim of slot `i` that is owned: the entry there is ACTIVE, and has the channel in its set. -/
theorem owner_of_owns {s : State} {i : SlotNo} {c : Chan} {x : Claim} (hx : x.isOf i = true) (h : s.owns c x = true) :
    ∃ e, (s.slot i).entry = some e ∧ e.state.isActive = true ∧ c ∈ channelsOf e.body.channels := by
  cases hk : x.kind with
  | schedule j gen p =>
    have hj : j = i := by simpa [Claim.isOf, hk] using hx
    subst hj
    simp only [State.owns, hk, Bool.and_eq_true, Option.any_eq_true] at h
    obtain ⟨-, e, he, ⟨⟨hc, -⟩, -⟩, hst⟩ := h
    refine ⟨e, he, ?_, by simpa using hc⟩
    cases hs : e.state <;> simp_all [EntryState.isActive]
  | _ => simp [Claim.isOf, hk] at hx

/-- A claim of an ACTIVE entry, as its start gives it, is owned. -/
theorem owns_claim {s : State} {i : SlotNo} {gen : Byte} {e : Entry} {k : ClaimState} {m : Bool} {c : Chan}
    (h : s.slot i = ⟨gen, some e⟩) (he : e.state = .active k m) (hc : c ∈ channelsOf e.body.channels) :
    s.owns c (e.body.claim i gen k.start) = true := by
  simp [State.owns, EntryBody.claim, h, he, hc]

/-- The claims of a slot whose entry is ACTIVE are exactly those that its start gives. -/
theorem eq_claim_of_owns {s : State} {i : SlotNo} {gen : Byte} {e : Entry} {k : ClaimState} {m : Bool} {c : Chan} {x : Claim}
    (h : s.slot i = ⟨gen, some e⟩) (he : e.state = .active k m) (hx : x.isOf i = true) (ho : s.owns c x = true) :
    x = e.body.claim i gen k.start := by
  obtain ⟨kind, action, start⟩ := x
  cases kind with
  | schedule j g p =>
    have hj : j = i := by simpa [Claim.isOf] using hx
    subst hj
    simp only [State.owns, h, he, Option.any_some, Bool.and_eq_true, beq_iff_eq] at ho
    obtain ⟨hg, ⟨⟨-, hp⟩, ha⟩, hst⟩ := ho
    simp [EntryBody.claim, hg, hp, ha, hst]
  | _ => simp [Claim.isOf] at hx

theorem endedKey_congr {s t : State} {i : SlotNo} (h : t.slot i = s.slot i) : t.endedKey i = s.endedKey i := by
  simp only [State.endedKey, h]

/-- The ENDED order stays in order while its slots stand. -/
theorem endedSorted_congr {s t : State} (h : s.EndedSorted) (ho : t.table.endedOrder = s.table.endedOrder)
    (hs : ∀ j ∈ s.table.endedOrder, t.slot j = s.slot j) : t.EndedSorted := by
  unfold State.EndedSorted at h ⊢
  rw [ho]
  refine h.imp_of_mem fun ha hb hab => ?_
  rwa [endedKey_congr (hs _ ha), endedKey_congr (hs _ hb)]

/-- A slot's part of the invariant rests on the slot, the ENDED order and the schedule claims of its handle. -/
theorem State.SlotOk.congr {s t : State} {i : SlotNo} (h : s.SlotOk i) (hi : t.slot i = s.slot i)
    (ho : i ∈ t.table.endedOrder ↔ i ∈ s.table.endedOrder)
    (hm : ∀ c x, x.isOf i = true → x ∈ (t.chan c).claims → x ∈ (s.chan c).claims)
    (hc : ∀ c, (t.chan c).claims.countP (Claim.isOf i) = (s.chan c).claims.countP (Claim.isOf i)) : t.SlotOk i where
  owned c x hx hxi := by rw [owns_congr hi c hxi]; exact h.owned c x (hm c x hxi hx) hxi
  claimed c := by rw [hi, hc]; exact h.claimed c
  ended := by rw [hi, ho]; exact h.ended

/-! ## The pool -/

theorem mem_channelsOf {w : Word} {c : Chan} : c ∈ channelsOf w ↔ w.getLsbD c.val = true := by simp [channelsOf]

theorem sum_indicator {α : Type} (p : α → Bool) (l : List α) :
    (l.map fun a => if p a = true then 1 else 0).sum = (l.filter p).length := by
  induction l with
  | nil => rfl
  | cons a l ih =>
    rw [List.map_cons, List.sum_cons, ih, List.filter_cons]
    split <;> simp [Nat.add_comm]

/-- One schedule claim more on each channel of a set makes as many more as the set has channels. -/
theorem scheduleClaims_add {s t : State} {w : Word}
    (h : ∀ c, (t.chan c).claims.countP Claim.isSchedule =
      (s.chan c).claims.countP Claim.isSchedule + if c ∈ channelsOf w then 1 else 0) :
    t.scheduleClaims = s.scheduleClaims + setSize w := by
  unfold State.scheduleClaims setSize
  rw [List.map_congr_left fun c _ => h c, List.sum_map_add]
  simp only [mem_channelsOf]
  rw [sum_indicator]
  rfl

theorem scheduleClaims_congr {s t : State}
    (h : ∀ c, (t.chan c).claims.countP Claim.isSchedule = (s.chan c).claims.countP Claim.isSchedule) :
    t.scheduleClaims = s.scheduleClaims := by
  unfold State.scheduleClaims
  rw [List.map_congr_left fun c _ => h c]

theorem poolOk_congr {s t : State} (h : s.PoolOk) (hf : t.freeCount = s.freeCount)
    (hc : ∀ c, (t.chan c).claims.countP Claim.isSchedule = (s.chan c).claims.countP Claim.isSchedule) : t.PoolOk := by
  rw [State.PoolOk, hf, scheduleClaims_congr hc]
  exact h

/-! ## Lists rewritten, the schedule claims standing -/

theorem countP_isOf_scheduled (i : SlotNo) (l : List Claim) : (scheduled l).countP (Claim.isOf i) = l.countP (Claim.isOf i) :=
  countP_scheduled (fun _ => isSchedule_of_isOf) l

/-- The invariant is kept where the table, the pool and the schedule claims stand and the lists keep their own form. -/
theorem scheduleOk_of_scheduled {s t : State} (h : s.ScheduleOk) (ht : t.table = s.table) (hf : t.freeCount = s.freeCount)
    (hl : ∀ c, ListOk (t.chan c).claims) (hc : ∀ c, scheduled (t.chan c).claims = scheduled (s.chan c).claims) :
    t.ScheduleOk := by
  obtain ⟨-, hp, hs, ho⟩ := (scheduleOk_iff s).mp h
  have hslot (i : SlotNo) : t.slot i = s.slot i := by simp only [State.slot, ht]
  have hpool : t.PoolOk := poolOk_congr hp hf fun c => by rw [countP_isSchedule, hc, ← countP_isSchedule]
  refine (scheduleOk_iff t).mpr ⟨hl, hpool, fun i => (hs i).congr (hslot i) (by rw [ht]) (fun c x hx => ?_) (fun c => ?_),
    endedSorted_congr ho (by rw [ht]) fun j _ => hslot j⟩
  · rw [← mem_scheduled (isSchedule_of_isOf hx), hc, mem_scheduled (isSchedule_of_isOf hx)]; exact id
  · rw [← countP_isOf_scheduled, hc, countP_isOf_scheduled]

/-! ## A slot that takes no part -/

/-- An entry that is neither ACTIVE nor ENDED takes no part in the invariant. -/
def Entry.idle (e : Entry) : Bool := !e.state.isActive && !e.state.isEnded

/-- A slot with no entry, or with one that is neither ACTIVE nor ENDED. -/
def Slot.idle (x : Slot) : Bool := x.entry.all Entry.idle

theorem Slot.idle_some {x : Slot} {e : Entry} (h : x.entry = some e) : x.idle = e.idle := by simp [Slot.idle, h]

theorem idle_iff {x : Slot} : x.idle = true ↔ ∀ e, x.entry = some e → e.state.isActive = false ∧ e.state.isEnded = false := by
  simp only [Slot.idle, Entry.idle, Option.all_eq_true_iff_get]
  cases x.entry <;> simp

/-- An idle slot takes no part. -/
theorem ScheduleOk.vacantOk {s : State} {i : SlotNo} (h : s.ScheduleOk) (hi : (s.slot i).idle = true) : s.VacantOk i := by
  obtain ⟨hl, hp, hs, ho⟩ := (scheduleOk_iff s).mp h
  have hidle := idle_iff.mp hi
  refine ⟨hl, hp, fun j _ => hs j, fun c x hx => ?_, fun hm => ?_, ho⟩
  · by_contra hn
    have hxi : x.isOf i = true := by simpa using hn
    obtain ⟨e, he, ha, -⟩ := owner_of_owns hxi ((hs i).owned c x hx hxi)
    rw [(hidle e he).1] at ha
    exact absurd ha (by simp)
  · obtain ⟨e, he, hend⟩ := (Option.any_eq_true _ _).mp ((hs i).ended.mp hm)
    rw [(hidle e he).2] at hend
    exact absurd hend (by simp)

/-- With a slot that takes no part, the invariant does not rest on what stands there. -/
theorem State.VacantOk.congr {s t : State} {i : SlotNo} (h : s.VacantOk i) (hs : ∀ j, j ≠ i → t.slot j = s.slot j)
    (ho : t.table.endedOrder = s.table.endedOrder) (hf : t.freeCount = s.freeCount)
    (hc : ∀ c, (t.chan c).claims = (s.chan c).claims) : t.VacantOk i where
  lists c := by rw [hc]; exact h.lists c
  pool := poolOk_congr h.pool hf fun c => by rw [hc]
  slots j hj := (h.slots j hj).congr (hs j hj) (by rw [ho]) (fun c x _ hx => by rwa [hc] at hx) (fun c => by rw [hc])
  unclaimed c := by rw [hc]; exact h.unclaimed c
  unlisted := by rw [ho]; exact h.unlisted
  sorted := endedSorted_congr h.sorted ho fun j hj => hs j fun e => h.unlisted (e ▸ hj)

/-- A slot that takes no part may stand idle. -/
theorem State.VacantOk.scheduleOk {s : State} {i : SlotNo} (h : s.VacantOk i) (hi : (s.slot i).idle = true) : s.ScheduleOk := by
  have hidle := idle_iff.mp hi
  refine (scheduleOk_iff s).mpr ⟨h.lists, h.pool, fun j => ?_, h.sorted⟩
  by_cases hj : j = i
  · subst hj
    refine ⟨fun c x hx hxj => absurd hxj (by simp [h.unclaimed c x hx]), fun c hc => ?_, iff_of_false h.unlisted fun hn => ?_⟩
    · obtain ⟨e, he, ha⟩ := (Option.any_eq_true _ _).mp hc
      simp [(hidle e he).1] at ha
    · obtain ⟨e, he, hend⟩ := (Option.any_eq_true _ _).mp hn
      simp [(hidle e he).2] at hend
  · exact h.slots j hj

theorem State.VacantOk.setEntry {s : State} {i : SlotNo} (h : s.VacantOk i) {e : Entry} (he : e.idle = true) :
    (s.setEntry i e).ScheduleOk := by
  have hv : (s.setEntry i e).VacantOk i :=
    h.congr (fun j hj => by rw [slot_setEntry, if_neg (Ne.symm hj)]) rfl rfl fun _ => rfl
  exact hv.scheduleOk (by rw [slot_setEntry_self]; exact he)

theorem State.VacantOk.clearSlot {s : State} {i : SlotNo} (h : s.VacantOk i) : (s.clearSlot i).ScheduleOk := by
  have hv : (s.clearSlot i).VacantOk i := by
    refine h.congr (fun j hj => (clearSlot_touches s i (C := fun _ => False)).slots j hj) ?_ rfl fun _ => rfl
    rw [clearSlot_endedOrder]
    exact List.filter_eq_self.mpr fun j hj => by simpa using fun e : j = i => h.unlisted (e ▸ hj)
  exact hv.scheduleOk (by rw [clearSlot_slot]; rfl)

/-- Clearing a slot whose entry is ENDED takes it out of the ENDED order (R14). -/
theorem ScheduleOk.clearSlot {s : State} {i : SlotNo} (h : s.ScheduleOk) (hi : i ∈ s.table.endedOrder) :
    (s.clearSlot i).ScheduleOk := by
  obtain ⟨hl, hp, hs, ho⟩ := (scheduleOk_iff s).mp h
  obtain ⟨e, he, hend⟩ := (Option.any_eq_true _ _).mp ((hs i).ended.mp hi)
  have hfree : ∀ c, ∀ x ∈ (s.chan c).claims, x.isOf i = false := fun c x hx => by
    by_contra hn
    have hxi : x.isOf i = true := by simpa using hn
    obtain ⟨e', he', ha, -⟩ := owner_of_owns hxi ((hs i).owned c x hx hxi)
    rw [he] at he'; cases he'
    rw [isActive_of_isEnded hend] at ha; cases ha
  have hslot (j : SlotNo) (hj : j ≠ i) : (s.clearSlot i).slot j = s.slot j :=
    (clearSlot_touches s i (C := fun _ => False)).slots j hj
  have hv : (s.clearSlot i).VacantOk i := by
    refine ⟨hl, hp, fun j hj => (hs j).congr (hslot j hj) ?_ (fun _ _ _ hx => hx) fun _ => rfl, hfree, ?_, ?_⟩
    · rw [clearSlot_endedOrder]; simp [hj]
    · rw [clearSlot_endedOrder]; simp
    · unfold State.EndedSorted at ho ⊢
      rw [clearSlot_endedOrder]
      refine (ho.sublist List.filter_sublist).imp_of_mem fun ha hb hab => ?_
      have hne {j : SlotNo} (hj : j ∈ s.table.endedOrder.filter (· != i)) : j ≠ i := by simpa using (List.mem_filter.mp hj).2
      rwa [endedKey_congr (hslot _ (hne ha)), endedKey_congr (hslot _ (hne hb))]
  exact hv.scheduleOk (by rw [clearSlot_slot]; rfl)

/-! ## The ENDED order -/

/-- A slot put into a list of others keeps the order by distinct keys. -/
theorem insertEnded_sorted {key : SlotNo → Nat} {i : SlotNo} {l : List SlotNo} (h : l.Pairwise fun a b => key a < key b)
    (hi : ∀ j ∈ l, key j ≠ key i) : (insertEnded key i l).Pairwise fun a b => key a < key b := by
  induction l with
  | nil => simp [insertEnded]
  | cons x xs ih =>
    obtain ⟨hx, hxs⟩ := List.pairwise_cons.mp h
    unfold insertEnded
    split
    · rename_i hlt
      refine List.pairwise_cons.mpr ⟨fun y hy => ?_, h⟩
      obtain rfl | hy := List.mem_cons.mp hy
      · exact hlt
      · exact hlt.trans (hx y hy)
    · rename_i hge
      have hne := hi x (by simp)
      refine List.pairwise_cons.mpr ⟨fun y hy => ?_, ih hxs fun j hj => hi j (by simp [hj])⟩
      obtain rfl | hy := (mem_insertEnded key i y xs).mp hy
      · omega
      · exact hx y hy

/-- The key of an ENDED entry tells its slot. -/
theorem endedKey_mod (s : State) (i : SlotNo) : s.endedKey i % 128 = i.val := by
  have := i.isLt
  unfold State.endedKey
  split
  · split <;> omega
  · omega

/-- A slot that takes no part may go to ENDED (R9, R15). -/
theorem State.VacantOk.toEnded {s : State} {i : SlotNo} (h : s.VacantOk i) (e : Entry) (r : EndReason) :
    (s.toEnded i e r).ScheduleOk := by
  have hslot (j : SlotNo) (hj : j ≠ i) : (s.toEnded i e r).slot j = s.slot j :=
    (toEnded_touches s i (C := fun _ => False) e r).slots j hj
  have hmem (j : SlotNo) := mem_endedOrder_toEnded s i e r j
  refine (scheduleOk_iff _).mpr ⟨h.lists, h.pool, fun j => ?_, ?_⟩
  · by_cases hj : j = i
    · subst hj
      refine ⟨fun c x hx hxj => absurd hxj (by simp [h.unclaimed c x hx]), fun c hc => ?_, ?_⟩
      · simp [toEnded_slot, EntryState.isActive] at hc
      · rw [hmem, toEnded_slot]; simp [EntryState.isEnded]
    · exact (h.slots j hj).congr (hslot j hj) (by rw [hmem]; simp [hj]) (fun _ _ _ hx => hx) fun _ => rfl
  · have hkey (j : SlotNo) : (s.toEnded i e r).endedKey j =
        (s.setEntry i { e with state := .ended r s.now }).endedKey j := endedKey_congr rfl
    have hold : (s.setEntry i { e with state := .ended r s.now }).EndedSorted :=
      endedSorted_congr h.sorted rfl fun j hj => by
        rw [slot_setEntry, if_neg]; exact fun e => h.unlisted (e ▸ hj)
    refine (insertEnded_sorted hold fun j hj hk => h.unlisted ?_).imp fun {a b} hab => ?_
    · have hji : j = i := Fin.ext (by rw [← endedKey_mod _ j, hk, endedKey_mod])
      exact hji ▸ hj
    · rwa [hkey, hkey]

/-! ## Claims taken and placed -/

/-- A list after the claims of slot `i` were taken off it, and perhaps an override with them. -/
structure Taken (i : SlotNo) (l l' : List Claim) : Prop where
  sub : l'.Sublist l
  rest : scheduled l' = (scheduled l).filter fun x => !x.isOf i

theorem Taken.filter (i : SlotNo) (l : List Claim) : Taken i l (l.filter fun x => !x.isOf i) :=
  ⟨List.filter_sublist, by simp only [scheduled, List.filter_filter, Bool.and_comm]⟩

theorem taken_withoutClaims (i : SlotNo) (l : List Claim) : Taken i l (withoutClaims i l) := by
  unfold withoutClaims
  split
  · exact ⟨(withoutUntilNext_sublist _).trans List.filter_sublist,
      (scheduled_withoutUntilNext _).trans (Taken.filter i l).rest⟩
  · rename_i hn
    simp only [Bool.not_eq_true, List.any_eq_false] at hn
    exact ⟨.refl l, (List.filter_eq_self.mpr fun x hx => by simpa using hn x (List.mem_filter.mp hx).1).symm⟩

theorem Taken.none_left {i : SlotNo} {l l' : List Claim} (h : Taken i l l') {x : Claim} (hx : x ∈ l') : x.isOf i = false := by
  by_contra hn
  have hxi : x.isOf i = true := by simpa using hn
  have hm := (mem_scheduled (isSchedule_of_isOf hxi)).mpr hx
  rw [h.rest] at hm
  simp [hxi] at hm

/-- The claims of another slot stand where those of slot `i` are taken. -/
theorem Taken.countP_isOf {i j : SlotNo} (hj : j ≠ i) {l l' : List Claim} (h : Taken i l l') :
    l'.countP (Claim.isOf j) = l.countP (Claim.isOf j) := by
  rw [← countP_isOf_scheduled, h.rest, List.countP_filter, ← countP_isOf_scheduled j l]
  refine List.countP_congr fun x _ => ?_
  have hne : x.isOf j = true → x.isOf i = false := by
    cases hk : x.kind <;> simp_all [Claim.isOf]
  cases hx : x.isOf j <;> simp_all

/-- Where slot `i` had one claim, taking it makes one schedule claim less. -/
theorem Taken.countP_isSchedule {i : SlotNo} {l l' : List Claim} (h : Taken i l l') :
    l.countP Claim.isSchedule = l'.countP Claim.isSchedule + l.countP (Claim.isOf i) := by
  rw [Machine.countP_isSchedule, Machine.countP_isSchedule, h.rest, ← countP_isOf_scheduled i l,
    List.length_eq_countP_add_countP (Claim.isOf i), ← List.countP_eq_length_filter, Nat.add_comm]
  congr 1
  exact List.countP_congr fun x _ => by simp

/-- The claims of an ACTIVE entry taken off the channels of its set, and its pool records returned: its slot takes no part (R64, R67). -/
theorem ScheduleOk.vacated {s t : State} {i : SlotNo} {gen : Byte} {e : Entry} (h : s.ScheduleOk) (hi : s.slot i = ⟨gen, some e⟩)
    (ha : e.state.isActive = true) (hs : ∀ j, j ≠ i → t.slot j = s.slot j) (ho : t.table.endedOrder = s.table.endedOrder)
    (hf : t.freeCount = s.freeCount + setSize e.body.channels)
    (hin : ∀ c ∈ channelsOf e.body.channels, Taken i (s.chan c).claims (t.chan c).claims)
    (hout : ∀ c, c ∉ channelsOf e.body.channels → (t.chan c).claims = (s.chan c).claims) : t.VacantOk i := by
  obtain ⟨hl, hp, hok, hsort⟩ := (scheduleOk_iff s).mp h
  have hone (c : Chan) (hc : c ∈ channelsOf e.body.channels) : (s.chan c).claims.countP (Claim.isOf i) = 1 :=
    (hok i).claimed c (by simp [hi, ha, hc])
  have hunlisted : i ∉ s.table.endedOrder := fun hm => by
    have hend : e.state.isEnded = true := by simpa [hi] using (hok i).ended.mp hm
    rw [isActive_of_isEnded hend] at ha; cases ha
  have hsub (c : Chan) : (t.chan c).claims.Sublist (s.chan c).claims := by
    by_cases hc : c ∈ channelsOf e.body.channels
    · exact (hin c hc).sub
    · rw [hout c hc]
  refine ⟨fun c => (hl c).sublist (hsub c), ?_, fun j hj => (hok j).congr (hs j hj) (by rw [ho])
    (fun c x _ hx => (hsub c).subset hx) fun c => ?_, fun c x hx => ?_, by rwa [ho], endedSorted_congr hsort ho fun j hj => hs j ?_⟩
  · have hadd : s.scheduleClaims = t.scheduleClaims + setSize e.body.channels := scheduleClaims_add fun c => by
      by_cases hc : c ∈ channelsOf e.body.channels
      · rw [if_pos hc, (hin c hc).countP_isSchedule, hone c hc]
      · rw [if_neg hc, hout c hc]; rfl
    unfold State.PoolOk at hp ⊢
    omega
  · by_cases hc : c ∈ channelsOf e.body.channels
    · exact (hin c hc).countP_isOf hj
    · rw [hout c hc]
  · by_cases hc : c ∈ channelsOf e.body.channels
    · exact (hin c hc).none_left hx
    · rw [hout c hc] at hx
      by_contra hn
      have hxi : x.isOf i = true := by simpa using hn
      obtain ⟨e', he', -, hc'⟩ := owner_of_owns hxi ((hok i).owned c x hx hxi)
      rw [hi] at he'; cases he'
      exact hc hc'
  · exact fun e => hunlisted (e ▸ hj)

/-- A list after a schedule claim joined it, and perhaps an override left it. -/
structure Joined (x : Claim) (l l' : List Claim) : Prop where
  ok : ListOk l'
  perm : (scheduled l').Perm (x :: scheduled l)

theorem joined_insertClaim {x : Claim} (hx : x.isSchedule = true) {l : List Claim} (h : ListOk l) : Joined x l (insertClaim x l) where
  ok := h.insert_schedule hx
  perm := by
    have := (insertClaim_perm x l).filter Claim.isSchedule
    rwa [List.filter_cons_of_pos hx] at this

theorem joined_withClaim {x : Claim} (hx : x.isSchedule = true) {l : List Claim} (h : ListOk l) : Joined x l (withClaim x l) where
  ok := (h.insert_schedule hx).sublist (withoutUntilNext_sublist _)
  perm := by
    rw [withClaim, scheduled_withoutUntilNext]
    exact (joined_insertClaim hx h).perm

theorem Joined.mem {x y : Claim} {l l' : List Claim} (h : Joined x l l') (hy : y.isSchedule = true) (hm : y ∈ l') :
    y = x ∨ y ∈ l := by
  have := h.perm.mem_iff.mp ((mem_scheduled hy).mpr hm)
  obtain e | hm := List.mem_cons.mp this
  · exact .inl e
  · exact .inr ((mem_scheduled hy).mp hm)

theorem Joined.countP_isOf {x : Claim} {l l' : List Claim} (h : Joined x l l') (j : SlotNo) :
    l'.countP (Claim.isOf j) = l.countP (Claim.isOf j) + if x.isOf j then 1 else 0 := by
  rw [← countP_isOf_scheduled, h.perm.countP_eq, List.countP_cons, countP_isOf_scheduled]

theorem Joined.countP_isSchedule {x : Claim} {l l' : List Claim} (h : Joined x l l') :
    l'.countP Claim.isSchedule = l.countP Claim.isSchedule + 1 := by
  rw [Machine.countP_isSchedule, Machine.countP_isSchedule, h.perm.length_eq, List.length_cons]

theorem claim_isSchedule (b : EntryBody) (i : SlotNo) (gen : Byte) (m : CalMinute) : (b.claim i gen m).isSchedule = true := rfl

theorem claim_isOf (b : EntryBody) (i j : SlotNo) (gen : Byte) (m : CalMinute) : (b.claim i gen m).isOf j = (i == j) := rfl

/-- A slot that took no part is ACTIVE with one claim on each channel of its set, and its pool records drawn (R64, R65). -/
theorem State.VacantOk.occupied {s t : State} {i : SlotNo} {gen : Byte} {e : Entry} {k : ClaimState} {m : Bool} (h : s.VacantOk i)
    (hi : t.slot i = ⟨gen, some e⟩) (he : e.state = .active k m) (hs : ∀ j, j ≠ i → t.slot j = s.slot j)
    (ho : t.table.endedOrder = s.table.endedOrder) (hf : t.freeCount + setSize e.body.channels = s.freeCount)
    (hin : ∀ c ∈ channelsOf e.body.channels, Joined (e.body.claim i gen k.start) (s.chan c).claims (t.chan c).claims)
    (hout : ∀ c, c ∉ channelsOf e.body.channels → (t.chan c).claims = (s.chan c).claims) : t.ScheduleOk := by
  have hmem (j : SlotNo) (c : Chan) (x : Claim) (hxj : x.isOf j = true) (hx : x ∈ (t.chan c).claims) :
      (x = e.body.claim i gen k.start ∧ c ∈ channelsOf e.body.channels) ∨ x ∈ (s.chan c).claims := by
    by_cases hc : c ∈ channelsOf e.body.channels
    · exact ((hin c hc).mem (isSchedule_of_isOf hxj) hx).imp_left fun e => ⟨e, hc⟩
    · rw [hout c hc] at hx; exact .inr hx
  have hcount (j : SlotNo) (c : Chan) : (t.chan c).claims.countP (Claim.isOf j) =
      (s.chan c).claims.countP (Claim.isOf j) + if c ∈ channelsOf e.body.channels ∧ i = j then 1 else 0 := by
    by_cases hc : c ∈ channelsOf e.body.channels
    · rw [(hin c hc).countP_isOf, claim_isOf]; simp [hc]
    · rw [hout c hc]; simp [hc]
  refine (scheduleOk_iff t).mpr ⟨fun c => ?_, ?_, fun j => ?_, endedSorted_congr h.sorted ho fun j hj => hs j fun e => h.unlisted (e ▸ hj)⟩
  · by_cases hc : c ∈ channelsOf e.body.channels
    · exact (hin c hc).ok
    · rw [hout c hc]; exact h.lists c
  · have hadd : t.scheduleClaims = s.scheduleClaims + setSize e.body.channels := scheduleClaims_add fun c => by
      by_cases hc : c ∈ channelsOf e.body.channels
      · rw [if_pos hc, (hin c hc).countP_isSchedule]
      · rw [if_neg hc, hout c hc]; rfl
    have hp := h.pool
    unfold State.PoolOk at hp ⊢
    omega
  · by_cases hj : j = i
    · subst hj
      refine ⟨fun c x hx hxj => ?_, fun c hc => ?_, ?_⟩
      · obtain ⟨rfl, hc⟩ | hx := hmem j c x hxj hx
        · exact owns_claim hi he hc
        · exact absurd hxj (by simp [h.unclaimed c x hx])
      · have hcs : c ∈ channelsOf e.body.channels := by simpa [hi, he, EntryState.isActive] using hc
        have hzero : (s.chan c).claims.countP (Claim.isOf j) = 0 := List.countP_eq_zero.mpr fun x hx => by simp [h.unclaimed c x hx]
        rw [hcount, hzero]; simp [hcs]
      · rw [ho, hi]; simp [h.unlisted, he, EntryState.isEnded]
    · refine (h.slots j hj).congr (hs j hj) (by rw [ho]) (fun c x hxj hx => ?_) fun c => ?_
      · obtain ⟨rfl, -⟩ | hx := hmem j c x hxj hx
        · rw [claim_isOf] at hxj; exact absurd (by simpa using hxj) (Ne.symm hj)
        · exact hx
      · rw [hcount]; simp [Ne.symm hj]

end Sys2Proof.Machine
end

/-! What a property of the claims, the targets, the table and the pool must meet to be kept by every step, and the two invariants that
meet it: the targets (R62), and the lists, the pool and the ENDED order (R15, R61, R64). -/

section
namespace Sys2Proof.Machine

/-! ## What the two invariants rest on -/

/-- The table, the pool, and each channel's claims, target and rest state stand. -/
structure State.SameSchedule (s t : State) : Prop where
  table : t.table = s.table
  freeCount : t.freeCount = s.freeCount
  claims : ∀ c, (t.chan c).claims = (s.chan c).claims
  target : ∀ c, (t.chan c).target = (s.chan c).target
  rest : ∀ c, (t.chan c).config.rest = (s.chan c).config.rest

theorem State.SameSchedule.refl (s : State) : s.SameSchedule s := ⟨rfl, rfl, fun _ => rfl, fun _ => rfl, fun _ => rfl⟩

theorem State.SameSchedule.trans {s t u : State} (h : s.SameSchedule t) (k : t.SameSchedule u) : s.SameSchedule u where
  table := k.table.trans h.table
  freeCount := k.freeCount.trans h.freeCount
  claims c := (k.claims c).trans (h.claims c)
  target c := (k.target c).trans (h.target c)
  rest c := (k.rest c).trans (h.rest c)

theorem State.SameSchedule.of_blocks {s t : State} (ht : t.table = s.table) (hc : t.channels = s.channels)
    (hf : t.freeCount = s.freeCount) : s.SameSchedule t := by
  have h (c : Chan) : t.chan c = s.chan c := by simp only [State.chan, hc]
  exact ⟨ht, hf, fun c => by rw [h], fun c => by rw [h], fun c => by rw [h]⟩

theorem State.SameSchedule.forEach {α : Type} {f : State → α → State} (hf : ∀ (s : State) (a : α), s.SameSchedule (f s a))
    (l : List α) (s : State) : s.SameSchedule (s.forEach l f) :=
  forEach_rel State.SameSchedule .refl (fun _ _ _ => .trans) l f hf s

theorem setChan_schedule (s : State) (c : Chan) {x : Channel} (hc : x.claims = (s.chan c).claims)
    (ht : x.target = (s.chan c).target) (hr : x.config.rest = (s.chan c).config.rest) : s.SameSchedule (s.setChan c x) := by
  refine ⟨rfl, rfl, fun d => ?_, fun d => ?_, fun d => ?_⟩ <;> rw [chan_setChan] <;> split <;> simp_all

/-- An operation on the claims of one channel that leaves its schedule claims and the form of its list. -/
structure ChannelOp (f : State → Chan → State) : Prop where
  on : ∀ (s : State) (c : Chan), s.OnChannels (· = c) (f s c)
  lists : ∀ (s : State) (c : Chan), ListOk (s.chan c).claims → ListOk ((f s c).chan c).claims
  scheduled : ∀ (s : State) (c : Chan), scheduled ((f s c).chan c).claims = scheduled (s.chan c).claims

/-- A property that every step keeps because it rests on the schedule's items alone, holds of the cold-start values, and is kept by
each operation on those items. -/
structure ScheduleInvariant (P : State → Prop) : Prop where
  frame : ∀ {s t : State}, s.SameSchedule t → P s → P t
  cold : ∀ s : State, P s.coldValues
  pass : ∀ {s : State} {f : State → Chan → State} (cs : List Chan), ChannelOp f → P s → P ((s.forEach cs f).retargetAll cs)
  config : ∀ {s : State} (c : Chan) (cfg : ChannelConfig), P s → P (s.applyConfig c cfg)
  fill : ∀ {s : State} {i : SlotNo} {e : Entry}, (s.slot i).entry = none → e.idle = true → P s → P (s.setEntry i e)
  replace : ∀ {s : State} {i : SlotNo} {e e' : Entry}, (s.slot i).entry = some e → e.state.isEnded = false → e'.idle = true →
    P s → P ((s.dropClaims i e).setEntry i e')
  finish : ∀ {s : State} {i : SlotNo} {e : Entry} (r : EndReason), (s.slot i).entry = some e → e.state.isEnded = false →
    P s → P ((s.dropClaims i e).toEnded i e r)
  relabel : ∀ {s : State} {i : SlotNo} {e : Entry} {k k' : ClaimState} {m m' : Bool}, (s.slot i).entry = some e →
    e.state = .active k m → k'.start = k.start → P s → P (s.setEntry i { e with state := .active k' m' })
  place : ∀ {s : State} {i : SlotNo} {e : Entry} (found : Option CalMinute) (m : Bool), (s.slot i).entry = some e →
    e.idle = true → setSize e.body.channels ≤ s.freeCount → P s →
    P ((s.placeClaims i e.body s.now).setEntry i (e.started s.now found m))
  renew : ∀ {s : State} {i : SlotNo} {e : Entry} (found : Option CalMinute) (m : Bool), (s.slot i).entry = some e →
    e.state.isActive = true → P s → P ((s.renewClaims i e.body s.now).setEntry i (e.started s.now found m))
  reclaim : ∀ {s : State} {i : SlotNo}, i ∈ s.table.endedOrder → P s → P (s.clearSlot i)
  retire : ∀ {s : State} (i : SlotNo), P s → P (s.retire i)
  clearAll : ∀ {s : State}, P s → P s.clearAll

/-! ## The claim operations of one channel -/

theorem ListOk.withoutOverride {l : List Claim} (h : ListOk l) : ListOk (withoutOverride l) := h.sublist List.filter_sublist

theorem countP_withoutOverride (l : List Claim) : (withoutOverride l).countP Claim.isOverride = 0 := by
  simp [withoutOverride, List.countP_filter]

theorem setClaims_claims (s : State) (c : Chan) (l : List Claim) : ((s.setClaims c l).chan c).claims = l := by
  rw [chan_setClaims, if_pos rfl]

theorem dropOverride_channelOp : ChannelOp State.dropOverride where
  on := dropOverride_onChannels
  lists s c h := by rw [dropOverride_claims, if_pos rfl]; exact h.withoutOverride
  scheduled s c := by rw [dropOverride_claims, if_pos rfl, scheduled_withoutOverride]

theorem putOverride_claims (s : State) (c : Chan) (a : Bool) (o : OverrideOrigin) (e : OverrideEnding) :
    ((s.putOverride c a o e).chan c).claims =
      insertClaim ⟨.override o e Config.capMinutes, a, (s.dropOverride c).now⟩ (withoutOverride (s.chan c).claims) := by
  unfold State.putOverride
  dsimp only
  rw [setClaims_claims, dropOverride_claims, if_pos rfl]

theorem putOverride_channelOp (a : Bool) (o : OverrideOrigin) (e : OverrideEnding) :
    ChannelOp fun s c => s.putOverride c a o e where
  on s c := (dropOverride_onChannels s c).trans (setClaims_onChannels _ c _)
  lists s c h := by
    rw [putOverride_claims]
    refine ⟨insertClaim_ordered _ h.withoutOverride.order, ?_, ?_⟩
    · simpa [countP_insertClaim, Claim.isHold] using h.withoutOverride.holds
    · simp [countP_insertClaim, Claim.isOverride, countP_withoutOverride]
  scheduled s c := by rw [putOverride_claims, scheduled_insertClaim rfl, scheduled_withoutOverride]

theorem scheduled_withoutHold (l : List Claim) : scheduled (l.filter fun x => !x.isHold) = scheduled l := by
  rw [scheduled, List.filter_filter]
  refine List.filter_congr fun x _ => ?_
  cases hk : x.kind <;> simp [Claim.isSchedule, Claim.isHold, hk]

theorem putHold_channelOp (a : Bool) : ChannelOp fun s c => s.putHold c a where
  on s c := setClaims_onChannels s c _
  lists s c h := by
    have hf := h.sublist (List.filter_sublist (p := fun x => !x.isHold))
    rw [State.putHold, setClaims_claims]
    refine ⟨insertClaim_ordered _ hf.order, ?_, ?_⟩
    · simp [countP_insertClaim, Claim.isHold, List.countP_filter]
    · simpa [countP_insertClaim, Claim.isOverride] using hf.overrides
  scheduled s c := by rw [State.putHold, setClaims_claims, scheduled_insertClaim rfl, scheduled_withoutHold]

theorem dropHold_channelOp : ChannelOp State.dropHold where
  on s c := setClaims_onChannels s c _
  lists s c h := by rw [State.dropHold, setClaims_claims]; exact h.sublist List.filter_sublist
  scheduled s c := by rw [State.dropHold, setClaims_claims, scheduled_withoutHold]

/-- Lowering the counters of an override changes none of its keys (R61, R69). -/
theorem lowered_keys (x : Claim) :
    x.lowered.priority = x.priority ∧ x.lowered.start = x.start ∧ x.lowered.slotKey = x.slotKey ∧
      x.lowered.isHold = x.isHold ∧ x.lowered.isOverride = x.isOverride ∧ x.lowered.isSchedule = x.isSchedule := by
  obtain ⟨kind, a, m⟩ := x
  cases kind with
  | override o e cap => cases e <;> exact ⟨rfl, rfl, rfl, rfl, rfl, rfl⟩
  | _ => exact ⟨rfl, rfl, rfl, rfl, rfl, rfl⟩

theorem lowered_of_isSchedule {x : Claim} (h : x.isSchedule = true) : x.lowered = x := by
  cases hk : x.kind <;> simp_all [Claim.isSchedule, Claim.lowered]

theorem lowered_before (x y : Claim) : y.lowered.before x.lowered = y.before x := by
  obtain ⟨hx1, hx2, hx3, -⟩ := lowered_keys x
  obtain ⟨hy1, hy2, hy3, -⟩ := lowered_keys y
  simp only [Claim.before, hx1, hx2, hx3, hy1, hy2, hy3]

theorem ListOk.lowered {l : List Claim} (h : ListOk l) : ListOk (l.map Claim.lowered) where
  order := List.pairwise_map.mpr (h.order.imp fun hxy => by rwa [lowered_before])
  holds := by
    rw [List.countP_map, List.countP_congr (q := Claim.isHold) fun x _ => by simp [(lowered_keys x).2.2.2.1]]
    exact h.holds
  overrides := by
    rw [List.countP_map, List.countP_congr (q := Claim.isOverride) fun x _ => by simp [(lowered_keys x).2.2.2.2.1]]
    exact h.overrides

theorem scheduled_lowered (l : List Claim) : scheduled (l.map Claim.lowered) = scheduled l := by
  have hp : Claim.isSchedule ∘ Claim.lowered = Claim.isSchedule := funext fun x => (lowered_keys x).2.2.2.2.2
  rw [scheduled, List.filter_map, hp,
    List.map_congr_left fun x hx => (lowered_of_isSchedule (List.mem_filter.mp hx).2).trans (id_eq x).symm, List.map_id,
    scheduled]

theorem countdownChannel_claims (s : State) (c : Chan) :
    ((s.countdownChannel c).chan c).claims = (s.chan c).claims.map Claim.lowered ∨
      ((s.countdownChannel c).chan c).claims = withoutOverride ((s.chan c).claims.map Claim.lowered) := by
  unfold State.countdownChannel
  dsimp only
  split
  · right; rw [dropOverride_claims, if_pos rfl, setClaims_claims]
  · left; rw [setClaims_claims]

theorem countdownChannel_channelOp : ChannelOp State.countdownChannel where
  on s c := by
    unfold State.countdownChannel
    dsimp only
    split
    · exact (setClaims_onChannels s c _).trans (dropOverride_onChannels _ c)
    · exact setClaims_onChannels s c _
  lists s c h := by
    obtain e | e := countdownChannel_claims s c <;> rw [e]
    · exact h.lowered
    · exact h.lowered.withoutOverride
  scheduled s c := by
    obtain e | e := countdownChannel_claims s c <;> rw [e]
    · exact scheduled_lowered _
    · rw [scheduled_withoutOverride, scheduled_lowered]

/-! ## Configuration (R83, R84) -/

theorem setSwitch_schedule (s : State) (c : Chan) (x : SwitchState) : s.SameSchedule (s.setSwitch c x) :=
  setChan_schedule s c (by rfl) (by rfl) (by rfl)

theorem setEngine_schedule (s : State) (x : SwitchingEngine) : s.SameSchedule (s.setEngine x) := .of_blocks rfl rfl rfl

theorem enqueue_schedule (s : State) (c : Chan) : s.SameSchedule (s.enqueue c) :=
  (setSwitch_schedule s c .queued).trans (setEngine_schedule _ _)

theorem dequeue_schedule (s : State) (c : Chan) : s.SameSchedule (s.dequeue c) :=
  (setSwitch_schedule s c .idle).trans (setEngine_schedule _ _)

theorem raise_schedule (s : State) (k : ChangeKind) (n : Nat) (r : Word) : s.SameSchedule (s.raise k n r) :=
  .of_blocks rfl rfl rfl

theorem reportDriven_schedule (s : State) (c : Chan) (d : Driven) : s.SameSchedule (s.reportDriven c d) := by
  unfold State.reportDriven
  split
  · exact .refl s
  · exact raise_schedule s _ _ _

theorem changeKind_schedule (s : State) (c : Chan) (k : ChannelKind) : s.SameSchedule (s.changeKind c k) := by
  refine (dequeue_schedule s c).trans (.trans ?_ (reportDriven_schedule _ c _))
  exact setChan_schedule _ c (by rfl) (by rfl) (by rfl)

theorem reconcile_schedule (s : State) (c : Chan) : s.SameSchedule (s.reconcile c) := by
  unfold State.reconcile
  dsimp only
  split
  · exact enqueue_schedule s c
  · exact .refl s

/-- The configuration stored, and what a change of kind does with it, before the rest state is looked at (R83). -/
def State.storeConfig (s : State) (c : Chan) (cfg : ChannelConfig) : State :=
  let t := s.setChan c { s.chan c with config := cfg }
  if cfg.kind = (s.chan c).config.kind then t else t.changeKind c cfg.kind

theorem storeConfig_schedule (s : State) (c : Chan) (cfg : ChannelConfig) :
    (s.setChan c { s.chan c with config := cfg }).SameSchedule (s.storeConfig c cfg) := by
  unfold State.storeConfig
  dsimp only
  split
  · exact .refl _
  · exact changeKind_schedule _ c _

theorem applyConfig_eq (s : State) (c : Chan) (cfg : ChannelConfig) :
    s.applyConfig c cfg = (if cfg.rest = (s.chan c).config.rest then s.storeConfig c cfg
      else (s.storeConfig c cfg).retarget c).reconcile c := rfl

/-! ## The targets -/

theorem targetsOk_iff (s : State) : s.TargetsOk ↔ ∀ c, (s.chan c).target = (s.chan c).wanted := Iff.rfl

theorem targetsOk_frame {s t : State} (h : s.SameSchedule t) (hs : s.TargetsOk) : t.TargetsOk := fun c => by
  rw [h.target, h.claims, h.rest]; exact hs c

theorem targetsOk_of_channels {s t : State} (h : t.channels = s.channels) (hs : s.TargetsOk) : t.TargetsOk := fun c => by
  simpa only [State.chan, h] using hs c

/-- The end of an operation sets the targets of its channels right; elsewhere they were (R63). -/
theorem targetsOk_retargetAll {s t : State} {cs : List Chan} (hs : s.TargetsOk)
    (h : ∀ d, d ∉ cs → t.chan d = s.chan d) : (t.retargetAll cs).TargetsOk := fun d => by
  by_cases hd : d ∈ cs
  · exact retargetAll_wanted t hd
  · rw [(retargetAll_onChannels t cs).others d hd, h d hd]; exact hs d

theorem targetsOk_removeClaims {s : State} (hs : s.TargetsOk) (i : SlotNo) (b : EntryBody) : (s.removeClaims i b).TargetsOk :=
  targetsOk_retargetAll hs (takeClaims_onChannels s i b).others

theorem targetsOk_dropClaims {s : State} (hs : s.TargetsOk) (i : SlotNo) (e : Entry) : (s.dropClaims i e).TargetsOk := by
  unfold State.dropClaims
  split
  · exact targetsOk_frame (raise_schedule _ _ _ _) (targetsOk_removeClaims hs i e.body)
  · exact hs

theorem stripClaims_others (s : State) (i : SlotNo) (e : Entry) (c : Chan) (hc : c ∉ channelsOf e.body.channels) :
    (s.stripClaims i e).chan c = s.chan c := by
  unfold State.stripClaims
  split
  · exact (takeClaims_onChannels s i e.body).others c hc
  · rfl

theorem targetsOk_retire {s : State} (hs : s.TargetsOk) (i : SlotNo) : (s.retire i).TargetsOk := by
  unfold State.retire State.retireOpen
  split
  · exact hs
  · rename_i e he
    refine targetsOk_retargetAll hs fun d hd => ?_
    rw [State.raiseEntry_chan, clearSlot_chan, stripClaims_others s i e d hd]

theorem targetsOk_applyConfig {s : State} (hs : s.TargetsOk) (c : Chan) (cfg : ChannelConfig) :
    (s.applyConfig c cfg).TargetsOk := by
  rw [applyConfig_eq]
  refine targetsOk_frame (reconcile_schedule _ c) ?_
  have hstore := storeConfig_schedule s c cfg
  have hother (d : Chan) (hd : c ≠ d) : (s.setChan c { s.chan c with config := cfg }).chan d = s.chan d := by
    rw [chan_setChan, if_neg hd]
  split
  · rename_i hr
    refine targetsOk_frame hstore fun d => ?_
    by_cases hd : c = d
    · subst hd; rw [chan_setChan, if_pos rfl, hr]; exact hs c
    · rw [hother d hd]; exact hs d
  · intro d
    by_cases hd : c = d
    · subst hd
      show _ = Channel.wanted _
      rw [retarget_target, if_pos rfl, (retarget_onChannels _ c).wanted (retarget_claims _ c c)]
    · rw [(retarget_onChannels _ c).others d (Ne.symm hd), hstore.target, hstore.claims, hstore.rest, hother d hd]
      exact hs d

theorem targetsOk_clearAll (s : State) : s.clearAll.TargetsOk := by
  unfold State.clearAll
  exact (targetsOk_iff _).mpr fun c => retargetAll_wanted _ (mem_allChannels c)

theorem targetsOk_cold (s : State) : s.coldValues.TargetsOk := fun c => by
  simp [State.coldValues, State.chan, Channel.cold, targetOf, ChannelConfig.cold]

theorem targetsOk_placeClaims {s : State} (hs : s.TargetsOk) (i : SlotNo) (b : EntryBody) (m : CalMinute) :
    (s.placeClaims i b m).TargetsOk :=
  targetsOk_retargetAll hs (State.OnChannels.forEach (fun _ h => h)
    (fun s c => (setClaims_onChannels s c _).trans (endUntilNext_onChannels _ c)) _).others

theorem targetsOk_renewClaims {s : State} (hs : s.TargetsOk) (i : SlotNo) (b : EntryBody) (m : CalMinute) :
    (s.renewClaims i b m).TargetsOk :=
  targetsOk_retargetAll hs (State.OnChannels.forEach (fun _ h => h) (fun s c => setClaims_onChannels s c _) _).others

theorem targetsOk_invariant : ScheduleInvariant State.TargetsOk where
  frame := targetsOk_frame
  cold := targetsOk_cold
  pass _ hf hs := targetsOk_retargetAll hs (State.OnChannels.forEach (fun _ h => h) hf.on _).others
  config c cfg hs := targetsOk_applyConfig hs c cfg
  fill _ _ hs := targetsOk_of_channels rfl hs
  replace _ _ _ hs := targetsOk_of_channels rfl (targetsOk_dropClaims hs _ _)
  finish _ _ _ hs := targetsOk_of_channels rfl (targetsOk_dropClaims hs _ _)
  relabel _ _ _ hs := targetsOk_of_channels rfl hs
  place _ _ _ _ _ hs := targetsOk_of_channels rfl (targetsOk_placeClaims hs _ _ _)
  renew _ _ _ _ hs := targetsOk_of_channels rfl (targetsOk_renewClaims hs _ _ _)
  reclaim _ hs := targetsOk_of_channels rfl hs
  retire i hs := targetsOk_retire hs i
  clearAll _ := targetsOk_clearAll _

/-! ## The lists, the pool and the ENDED order -/

theorem scheduleOk_frame {s t : State} (h : s.SameSchedule t) (hs : s.ScheduleOk) : t.ScheduleOk :=
  scheduleOk_of_scheduled hs h.table h.freeCount (fun c => by rw [h.claims]; exact ScheduleOk.lists hs c)
    fun c => by rw [h.claims]

theorem scheduleOk_retargetAll {s : State} (hs : s.ScheduleOk) (cs : List Chan) : (s.retargetAll cs).ScheduleOk := by
  have h := retargetAll_onChannels s cs
  exact scheduleOk_of_scheduled hs h.table h.freeCount (fun c => by rw [retargetAll_claims]; exact ScheduleOk.lists hs c)
    fun c => by rw [retargetAll_claims]

theorem ChannelOp.scheduleOk {f : State → Chan → State} (hf : ChannelOp f) {s : State} (hs : s.ScheduleOk) (c : Chan) :
    (f s c).ScheduleOk := by
  have h := hf.on s c
  refine scheduleOk_of_scheduled hs h.table h.freeCount (fun d => ?_) fun d => ?_
  all_goals by_cases hd : d = c
  · subst hd; exact hf.lists s d (ScheduleOk.lists hs d)
  · rw [h.others d hd]; exact ScheduleOk.lists hs d
  · subst hd; exact hf.scheduled s d
  · rw [h.others d hd]

theorem slot_of_entry {s : State} {i : SlotNo} {e : Entry} (h : (s.slot i).entry = some e) :
    s.slot i = ⟨(s.slot i).generation, some e⟩ := by rw [← h]

theorem vacantOk_takeClaims {s : State} {i : SlotNo} {e : Entry} (hs : s.ScheduleOk) (he : (s.slot i).entry = some e)
    (ha : e.state.isActive = true) : (s.takeClaims i e.body).VacantOk i := by
  have h := takeClaims_onChannels s i e.body
  refine ScheduleOk.vacated hs (slot_of_entry he) ha (fun j _ => h.slot j) (by rw [h.table]; rfl) h.freeCount
    (fun c hc => ?_) fun c hc => by rw [takeClaims_claims, if_neg hc]
  rw [takeClaims_claims, if_pos hc]
  exact taken_withoutClaims i _

theorem State.VacantOk.retargetAll {s : State} {i : SlotNo} (h : s.VacantOk i) (cs : List Chan) :
    (s.retargetAll cs).VacantOk i := by
  have hr := retargetAll_onChannels s cs
  exact h.congr (fun j _ => hr.slot j) (by rw [hr.table]) hr.freeCount fun c => retargetAll_claims s cs c

theorem State.VacantOk.raise {s : State} {i : SlotNo} (h : s.VacantOk i) (k : ChangeKind) (n : Nat) (r : Word) :
    (s.raise k n r).VacantOk i := h.congr (fun _ _ => rfl) rfl rfl fun _ => rfl

theorem idle_of_not {e : Entry} (ha : e.state.isActive = false) (hn : e.state.isEnded = false) : e.idle = true := by
  simp [Entry.idle, ha, hn]

/-- Once an entry that is not ENDED has lost its claims its slot takes no part. -/
theorem vacantOk_dropClaims {s : State} {i : SlotNo} {e : Entry} (hs : s.ScheduleOk) (he : (s.slot i).entry = some e)
    (hn : e.state.isEnded = false) : (s.dropClaims i e).VacantOk i := by
  unfold State.dropClaims
  split
  · rename_i ha; exact ((vacantOk_takeClaims hs he ha).retargetAll _).raise _ _ _
  · rename_i ha
    exact ScheduleOk.vacantOk hs (by rw [Slot.idle_some he]; exact idle_of_not (by simpa using ha) hn)

theorem scheduleOk_retireOpen {s : State} (hs : s.ScheduleOk) (i : SlotNo) : (s.retireOpen i).ScheduleOk := by
  unfold State.retireOpen
  split
  · exact hs
  · rename_i e he
    refine scheduleOk_frame (raise_schedule _ _ _ _) ?_
    unfold State.stripClaims
    split
    · rename_i k m hst
      exact ((vacantOk_takeClaims hs he (by rw [hst]; rfl)).raise _ _ _).clearSlot
    · rename_i hst
      have ha : e.state.isActive = false := by cases h : e.state <;> simp_all [EntryState.isActive]
      cases hend : e.state.isEnded with
      | true => exact ScheduleOk.clearSlot hs ((ScheduleOk.slotOk hs i).ended.mpr (by simp [he, hend]))
      | false => exact (ScheduleOk.vacantOk hs (by rw [Slot.idle_some he]; exact idle_of_not ha hend)).clearSlot

theorem scheduleOk_relabel {s : State} {i : SlotNo} {e : Entry} {k k' : ClaimState} {m m' : Bool} (hs : s.ScheduleOk)
    (he : (s.slot i).entry = some e) (hst : e.state = .active k m) (hk : k'.start = k.start) :
    (s.setEntry i { e with state := .active k' m' }).ScheduleOk := by
  obtain ⟨hl, hp, hok, ho⟩ := (scheduleOk_iff s).mp hs
  have hne {j : SlotNo} (hj : j ∈ s.table.endedOrder) : i ≠ j := by
    rintro rfl
    have := (hok i).ended.mp hj
    simp [he, hst, EntryState.isEnded] at this
  refine (scheduleOk_iff _).mpr ⟨hl, hp, fun j => ?_, endedSorted_congr ho rfl fun j hj => by rw [slot_setEntry, if_neg (hne hj)]⟩
  by_cases hj : i = j
  · subst hj
    have hslot := slot_setEntry_self s i { e with state := .active k' m' }
    refine ⟨fun c x hx hxi => ?_, fun c hc => (hok i).claimed c ?_, ?_⟩
    · have hown := (hok i).owned c x hx hxi
      obtain ⟨e', he', -, hc⟩ := owner_of_owns hxi hown
      rw [he] at he'; cases he'
      rw [eq_claim_of_owns (slot_of_entry he) hst hxi hown, ← hk]
      exact owns_claim (e := { e with state := .active k' m' }) hslot rfl hc
    · simpa [hslot, he, hst, EntryState.isActive] using hc
    · rw [hslot]
      have := (hok i).ended
      simpa [he, hst, EntryState.isEnded] using this
  · exact (hok j).congr (by rw [slot_setEntry, if_neg hj]) Iff.rfl (fun _ _ _ hx => hx) fun _ => rfl

theorem started_state (e : Entry) (now : CalMinute) (found : Option CalMinute) (m : Bool) :
    (e.started now found m).state = .active (e.body.claimState now found) m := rfl

@[simp] theorem started_channels (e : Entry) (now : CalMinute) (found : Option CalMinute) (m : Bool) :
    (e.started now found m).body.channels = e.body.channels := rfl

theorem started_claim (e : Entry) (now : CalMinute) (found : Option CalMinute) (m : Bool) (i : SlotNo) (gen : Byte) :
    (e.started now found m).body.claim i gen (e.body.claimState now found).start = e.body.claim i gen now := rfl

theorem scheduleOk_place {s : State} {i : SlotNo} {e : Entry} (found : Option CalMinute) (m : Bool) (hs : s.ScheduleOk)
    (he : (s.slot i).entry = some e) (hi : e.idle = true) (hf : setSize e.body.channels ≤ s.freeCount) :
    ((s.placeClaims i e.body s.now).setEntry i (e.started s.now found m)).ScheduleOk := by
  have h := placeClaims_onChannels s i e.body s.now
  have hv : s.VacantOk i := ScheduleOk.vacantOk hs (by rw [Slot.idle_some he]; exact hi)
  refine hv.occupied (e := e.started s.now found m) (slot_setEntry_self _ i _) (started_state e _ _ _)
    (fun j hj => ?_) ?_ ?_ (fun c hc => ?_) fun c hc => ?_
  all_goals try rw [started_channels] at hc
  · rw [slot_setEntry, if_neg (Ne.symm hj)]; exact h.slot j
  · rw [setEntry_endedOrder, h.table]; rfl
  · rw [State.setEntry_freeCount, h.freeCount, State.setFreeCount_freeCount]
    exact Nat.sub_add_cancel hf
  · rw [started_claim, setEntry_chan, placeClaims_claims, if_pos hc, h.slot]
    exact joined_withClaim (claim_isSchedule _ _ _ _) (ScheduleOk.lists hs c)
  · rw [setEntry_chan, placeClaims_claims, if_neg hc]

/-- The state with the claims of an entry off their lists and its pool records returned, overrides standing: what a restart puts its
renewed claims back into (R66). -/
def State.withoutClaimsOf (s : State) (i : SlotNo) (b : EntryBody) : State :=
  (s.setFreeCount (s.freeCount + setSize b.channels)).forEach (channelsOf b.channels) fun s c =>
    s.setClaims c ((s.chan c).claims.filter fun x => !x.isOf i)

theorem withoutClaimsOf_onChannels (s : State) (i : SlotNo) (b : EntryBody) :
    (s.setFreeCount (s.freeCount + setSize b.channels)).OnChannels (· ∈ channelsOf b.channels) (s.withoutClaimsOf i b) :=
  .forEach (fun _ h => h) (fun s c => setClaims_onChannels s c _) _

theorem withoutClaimsOf_claims (s : State) (i : SlotNo) (b : EntryBody) (d : Chan) :
    ((s.withoutClaimsOf i b).chan d).claims =
      if d ∈ channelsOf b.channels then (s.chan d).claims.filter fun x => !x.isOf i else (s.chan d).claims := by
  unfold State.withoutClaimsOf
  rw [forEach_claims (channelsOf_nodup _) (g := fun l => l.filter fun x => !x.isOf i)]
  · rfl
  · intro s c d; rw [chan_setClaims]; split <;> simp_all

/-- The one claim of an ACTIVE entry on a channel is the one its start gave. -/
theorem filter_isOf_of_active {s : State} {i : SlotNo} {gen : Byte} {e : Entry} {k : ClaimState} {m : Bool} (hs : s.ScheduleOk)
    (hi : s.slot i = ⟨gen, some e⟩) (he : e.state = .active k m) {c : Chan} (hc : c ∈ channelsOf e.body.channels) :
    (s.chan c).claims.filter (Claim.isOf i) = [e.body.claim i gen k.start] := by
  have hok := ScheduleOk.slotOk hs i
  have hone := hok.claimed c (by simp [hi, he, hc, EntryState.isActive])
  rw [List.countP_eq_length_filter] at hone
  obtain ⟨x, hx⟩ := List.length_eq_one_iff.mp hone
  have hm : x ∈ (s.chan c).claims.filter (Claim.isOf i) := by rw [hx]; simp
  obtain ⟨hxm, hxi⟩ := List.mem_filter.mp hm
  rw [hx, eq_claim_of_owns hi he hxi (hok.owned c x hxm hxi)]

theorem renewed_of_single {i : SlotNo} {start : CalMinute} {l : List Claim} {x : Claim} (h : l.filter (Claim.isOf i) = [x]) :
    renewed i start l = insertClaim { x with start := start } (l.filter fun y => !y.isOf i) := by
  rw [renewed, h]; rfl

theorem scheduleOk_renew {s : State} {i : SlotNo} {e : Entry} (found : Option CalMinute) (m : Bool) (hs : s.ScheduleOk)
    (he : (s.slot i).entry = some e) (ha : e.state.isActive = true) :
    ((s.renewClaims i e.body s.now).setEntry i (e.started s.now found m)).ScheduleOk := by
  obtain ⟨k, m', hst⟩ := exists_of_isActive ha
  have h := renewClaims_onChannels s i e.body s.now
  have hw := withoutClaimsOf_onChannels s i e.body
  have hv : (s.withoutClaimsOf i e.body).VacantOk i := by
    refine ScheduleOk.vacated hs (slot_of_entry he) ha (fun j _ => hw.slot j) (by rw [hw.table]; rfl) hw.freeCount
      (fun c hc => ?_) fun c hc => by rw [withoutClaimsOf_claims, if_neg hc]
    rw [withoutClaimsOf_claims, if_pos hc]
    exact .filter i _
  refine hv.occupied (e := e.started s.now found m) (slot_setEntry_self _ i _) (started_state e _ _ _)
    (fun j hj => ?_) ?_ ?_ (fun c hc => ?_) fun c hc => ?_
  all_goals try rw [started_channels] at hc
  · rw [slot_setEntry, if_neg (Ne.symm hj), h.slot, hw.slot]; rfl
  · rw [setEntry_endedOrder, h.table, hw.table]; rfl
  · rw [State.setEntry_freeCount, h.freeCount, hw.freeCount, State.setFreeCount_freeCount]; rfl
  · have hone := filter_isOf_of_active hs (slot_of_entry he) hst hc
    have hl := hv.lists c
    rw [withoutClaimsOf_claims, if_pos hc] at hl ⊢
    rw [started_claim, setEntry_chan, renewClaims_claims, if_pos hc, renewed_of_single hone, h.slot]
    exact joined_insertClaim (claim_isSchedule _ _ _ _) hl
  · rw [setEntry_chan, renewClaims_claims, withoutClaimsOf_claims, if_neg hc, if_neg hc]

theorem setCalendar_schedule (s : State) (x : ExceptionCalendar) : s.SameSchedule (s.setCalendar x) := .of_blocks rfl rfl rfl

theorem keepRecords_schedule (s : State) (keep : ExceptionRecord → Bool) : s.SameSchedule (s.keepRecords keep) := by
  unfold State.keepRecords
  split
  · exact .refl s
  · exact ((setCalendar_schedule s _).trans (setCalendar_schedule _ _)).trans (raise_schedule _ _ _ _)

theorem scheduleOk_clearAll {s : State} (hs : s.ScheduleOk) : s.clearAll.ScheduleOk := by
  unfold State.clearAll
  dsimp only
  refine scheduleOk_retargetAll (forEach_keeps (P := State.ScheduleOk) (fun t c _ ht => dropOverride_channelOp.scheduleOk ht c) ?_) _
  refine scheduleOk_frame ((keepRecords_schedule _ _).trans (setCalendar_schedule _ _)) ?_
  exact forEach_keeps (P := State.ScheduleOk) (fun t i _ ht => scheduleOk_retireOpen ht i) hs

theorem scheduleOk_cold (s : State) : s.coldValues.ScheduleOk := by
  have hclaims (c : Chan) : (s.coldValues.chan c).claims = [] := by simp [State.coldValues, State.chan, Channel.cold]
  have hslot (i : SlotNo) : s.coldValues.slot i = ⟨0, none⟩ := by
    simp [State.coldValues, State.slot, ScheduleTable.cold]
  have hended : s.coldValues.table.endedOrder = [] := rfl
  have hpool : s.coldValues.scheduleClaims = 0 := by simp [State.scheduleClaims, hclaims]
  refine (scheduleOk_iff _).mpr ⟨fun c => ?_, ?_, fun i => ⟨fun c x hx => ?_, fun c hc => ?_, ?_⟩, ?_⟩
  · rw [hclaims]; exact ⟨.nil, by simp, by simp⟩
  · rw [State.PoolOk, hpool]; rfl
  · simp [hclaims] at hx
  · simp [hslot] at hc
  · simp [hended, hslot]
  · simp [State.EndedSorted, hended]

theorem scheduleOk_retire {s : State} (hs : s.ScheduleOk) (i : SlotNo) : (s.retire i).ScheduleOk := by
  unfold State.retire
  split
  · exact hs
  · exact scheduleOk_retargetAll (scheduleOk_retireOpen hs i) _

theorem scheduleOk_applyConfig {s : State} (hs : s.ScheduleOk) (c : Chan) (cfg : ChannelConfig) :
    (s.applyConfig c cfg).ScheduleOk := by
  have hset : (s.setChan c { s.chan c with config := cfg }).ScheduleOk := by
    have hc (d : Chan) : ((s.setChan c { s.chan c with config := cfg }).chan d).claims = (s.chan d).claims := by
      rw [chan_setChan]; split <;> simp_all
    exact scheduleOk_of_scheduled hs rfl rfl (fun d => by rw [hc]; exact ScheduleOk.lists hs d) fun d => by rw [hc]
  have hstore := scheduleOk_frame (storeConfig_schedule s c cfg) hset
  rw [applyConfig_eq]
  refine scheduleOk_frame (reconcile_schedule _ c) ?_
  split
  · exact hstore
  · exact scheduleOk_retargetAll hstore [c]

theorem scheduleOk_invariant : ScheduleInvariant State.ScheduleOk where
  frame := scheduleOk_frame
  cold := scheduleOk_cold
  pass cs hf hs := scheduleOk_retargetAll (forEach_keeps (P := State.ScheduleOk) (fun _ c _ ht => hf.scheduleOk ht c) hs) cs
  config c cfg hs := scheduleOk_applyConfig hs c cfg
  fill he hi hs := (ScheduleOk.vacantOk hs (by simp [Slot.idle, he])).setEntry hi
  replace he hn hi hs := (vacantOk_dropClaims hs he hn).setEntry hi
  finish r he hn hs := (vacantOk_dropClaims hs he hn).toEnded _ r
  relabel he hst hk hs := scheduleOk_relabel hs he hst hk
  place found m he hi hf hs := scheduleOk_place found m hs he hi hf
  renew found m he ha hs := scheduleOk_renew found m hs he ha
  reclaim hi hs := ScheduleOk.clearSlot hs hi
  retire i hs := scheduleOk_retire hs i
  clearAll hs := scheduleOk_clearAll hs

end Sys2Proof.Machine
end

/-! Every step keeps a schedule invariant: first the events and commands that leave the schedule's items alone, then the operations of
the Schedule Table, and the traversal of a step. -/

section
namespace Sys2Proof.Machine

/-! ## What leaves the schedule's items alone -/

theorem setTimeBase_schedule (s : State) (x : TimeBase) : s.SameSchedule (s.setTimeBase x) := .of_blocks rfl rfl rfl
theorem setClocks_schedule (s : State) (m n : Nat) : s.SameSchedule (s.setClocks m n) := .of_blocks rfl rfl rfl
theorem setPort_schedule (s : State) (x : HostPort) : s.SameSchedule (s.setPort x) := .of_blocks rfl rfl rfl
theorem setStore_schedule (s : State) (x : ProgramStore) : s.SameSchedule (s.setStore x) := .of_blocks rfl rfl rfl
theorem setSupply_schedule (s : State) (x : SupplyController) : s.SameSchedule (s.setSupply x) := .of_blocks rfl rfl rfl
theorem setLight_schedule (s : State) (x : LightMonitor) : s.SameSchedule (s.setLight x) := .of_blocks rfl rfl rfl
theorem setLine_schedule (s : State) (x : LineMonitor) : s.SameSchedule (s.setLine x) := .of_blocks rfl rfl rfl
theorem setPending_schedule (s : State) (x : List Instr) : s.SameSchedule (s.setPending x) := .of_blocks rfl rfl rfl
theorem setFreeIndex_schedule (s : State) (n : Nat) : s.SameSchedule (s.setFreeIndex n) := .of_blocks rfl rfl rfl
theorem setButton_schedule (s : State) (b : ButtonNo) (x : Button) : s.SameSchedule (s.setButton b x) := .of_blocks rfl rfl rfl

theorem elapse_schedule (s : State) (dt : Nat) : s.SameSchedule (s.elapse dt) := by
  unfold State.elapse
  dsimp only
  split
  · exact .refl s
  · split
    · split
      · exact (setClocks_schedule s _ _).trans (setTimeBase_schedule _ _)
      · exact setClocks_schedule s _ _
    · exact setClocks_schedule s _ _

/-! ### The calendar -/

theorem lapse_schedule (s : State) : s.SameSchedule s.lapse := by
  unfold State.lapse
  split
  · exact (setCalendar_schedule s _).trans (raise_schedule _ _ _ _)
  · exact .refl s

theorem calendarDayWork_schedule (s : State) : s.SameSchedule s.calendarDayWork :=
  (setCalendar_schedule s _).trans (lapse_schedule _)

theorem addRecord_schedule {s t : State} {o : Origin} {x : ExceptionSpan × DayClass} (h : s.addRecord o x = .ok t) :
    s.SameSchedule t := by
  unfold State.addRecord at h
  dsimp only at h
  repeat' split at h
  all_goals cases h
  exact ((setCalendar_schedule s _).trans (setCalendar_schedule _ _)).trans (raise_schedule _ _ _ _)

theorem addExceptionItem_schedule {o : Origin} {p : List Byte} {s t : State} (h : addExceptionItem o p s = .ok t) :
    s.SameSchedule t := by
  unfold addExceptionItem at h
  split at h
  · split at h
    · exact addRecord_schedule h
    · cases h
  · cases h

/-! ### The Switching Engine -/

theorem drive_claims (ch : Channel) (pin : DrivePin) (v : Bool) :
    (ch.drive pin v).claims = ch.claims ∧ (ch.drive pin v).target = ch.target ∧ (ch.drive pin v).config = ch.config := by
  cases pin <;> exact ⟨rfl, rfl, rfl⟩

theorem completed_claims (ch : Channel) (op : Operation) :
    (ch.completed op).claims = ch.claims ∧ (ch.completed op).target = ch.target ∧ (ch.completed op).config = ch.config := by
  unfold Channel.completed
  dsimp only
  split
  · exact drive_claims ch op.pin false
  · exact ⟨rfl, rfl, rfl⟩

theorem grant_schedule (s : State) (c : Chan) : s.SameSchedule (s.grant c) := setSwitch_schedule s c _

theorem scanQueue_schedule (s : State) (cs : List Chan) (room : Nat) : s.SameSchedule (scanQueue s cs room).1 := by
  induction cs generalizing s room with
  | nil => exact .refl s
  | cons c cs ih =>
    cases room with
    | zero => exact .refl s
    | succ room =>
      unfold scanQueue
      split
      · exact (grant_schedule s c).trans (ih _ _)
      · exact ih _ _

theorem switchingSlot_schedule (s : State) : s.SameSchedule s.switchingSlot :=
  (scanQueue_schedule s _ _).trans (setEngine_schedule _ _)

theorem crystalTick_schedule (s : State) : s.SameSchedule s.crystalTick := by
  unfold State.crystalTick
  dsimp only
  split
  · split
    · exact setEngine_schedule s _
    · exact (setEngine_schedule s _).trans (switchingSlot_schedule _)
  · exact .refl s

theorem setDriven_schedule (s : State) (c : Chan) (sw : SwitchState) (pin : DrivePin) (v : Bool) :
    s.SameSchedule (s.setChan c (({ s.chan c with switch := sw }).drive pin v)) := by
  obtain ⟨hc, ht, hr⟩ := drive_claims { s.chan c with switch := sw } pin v
  exact setChan_schedule s c hc ht (by rw [hr])

theorem coilAction_schedule (s : State) (c : Chan) : s.SameSchedule (s.coilAction c) := by
  unfold State.coilAction
  split
  · exact setDriven_schedule s c _ _ _
  · exact .refl s

theorem pulseStart_schedule (s : State) (c : Chan) : s.SameSchedule (s.pulseStart c) := by
  unfold State.pulseStart
  split
  · exact setDriven_schedule s c _ _ _
  · exact .refl s

theorem complete_schedule (s : State) (c : Chan) : s.SameSchedule (s.complete c) := by
  unfold State.complete
  dsimp only
  split
  · rename_i op _
    obtain ⟨hc, ht, hr⟩ := completed_claims (s.chan c) op
    have h := (setChan_schedule s c hc ht (by rw [hr])).trans
      (raise_schedule _ .channel c.val ChannelReason.drivenChanged.bit)
    split
    · exact h
    · exact h.trans (enqueue_schedule _ c)
  · exact .refl s

theorem abandonAll_schedule (s : State) : s.SameSchedule s.abandonAll := by
  refine (State.SameSchedule.forEach (fun s c => ?_) _ s).trans (setEngine_schedule _ _)
  exact (setChan_schedule s c (by rfl) (by rfl) (by rfl)).trans (reportDriven_schedule _ c _)

theorem reconcileAll_schedule (s : State) : s.SameSchedule s.reconcileAll := .forEach reconcile_schedule _ s

/-! ### The Time Base and the Line Monitor -/

theorem makeDoubtful_schedule (s : State) : s.SameSchedule s.makeDoubtful := by
  unfold State.makeDoubtful
  split
  · exact (setTimeBase_schedule s _).trans (raise_schedule _ _ _ _)
  · exact .refl s

theorem judgeSource_schedule (s : State) : s.SameSchedule s.judgeSource := by
  unfold State.judgeSource State.handToLine State.handToCrystal
  dsimp only
  split
  · exact .refl s
  · split
    · exact setTimeBase_schedule s _
    · split
      · exact setTimeBase_schedule s _
      · exact (setTimeBase_schedule s _).trans (makeDoubtful_schedule _)

theorem secondBoundary_schedule (s : State) : s.SameSchedule s.secondBoundary := by
  unfold State.secondBoundary
  dsimp only
  split
  · split
    · exact (makeDoubtful_schedule s).trans (setTimeBase_schedule _ _)
    · exact setTimeBase_schedule s _
  · exact .refl s

theorem stopCrystal_schedule (s : State) : s.SameSchedule s.stopCrystal := by
  unfold State.stopCrystal
  dsimp only
  split
  · exact .refl s
  · have h := ((setClocks_schedule s s.cycles (s.osc + Config.detectorPeriods)).trans
      (setTimeBase_schedule _ { s.time with crystalRunning := false })).trans
      (setLine_schedule _ { s.line with measureStart := none })
    split
    · exact h.trans (makeDoubtful_schedule _)
    · exact h

theorem runCrystal_schedule (s : State) : s.SameSchedule s.runCrystal := by
  unfold State.runCrystal
  dsimp only
  split
  · exact .refl s
  · exact ((setTimeBase_schedule s _).trans (setLine_schedule _ _)).trans (setLight_schedule _ _)

theorem updateLine_schedule (s : State) (l : LineMonitor) : s.SameSchedule (s.updateLine l) := by
  unfold State.updateLine
  dsimp only
  split
  · exact setLine_schedule s l
  · exact (setLine_schedule s l).trans (raise_schedule _ _ _ _)

theorem loseLine_schedule (s : State) : s.SameSchedule s.loseLine :=
  (updateLine_schedule s _).trans (judgeSource_schedule _)

theorem risingCrossing_schedule (s : State) : s.SameSchedule s.risingCrossing := by
  unfold State.risingCrossing
  dsimp only
  have h := (updateLine_schedule s (s.line.rise s.cycles s.time.crystalRunning)).trans (judgeSource_schedule _)
  split
  · split
    · split
      · exact (h.trans (setTimeBase_schedule _ _)).trans (switchingSlot_schedule _)
      · exact h.trans (switchingSlot_schedule _)
    · exact h
  · exact .refl s

theorem fallingCrossing_schedule (s : State) : s.SameSchedule s.fallingCrossing := by
  unfold State.fallingCrossing
  dsimp only
  split
  · split
    · exact (setLine_schedule s _).trans (switchingSlot_schedule _)
    · exact setLine_schedule s _
  · exact .refl s

theorem absenceTimeout_schedule (s : State) : s.SameSchedule s.absenceTimeout := by
  unfold State.absenceTimeout
  split
  · exact loseLine_schedule s
  · exact .refl s

/-! ### The Light Monitor -/

theorem updateLight_schedule (s : State) (l : LightMonitor) : s.SameSchedule (s.updateLight l) := by
  unfold State.updateLight
  dsimp only
  split
  · exact setLight_schedule s l
  · exact (setLight_schedule s l).trans (raise_schedule _ _ _ _)

theorem lightLimitsItem_schedule {p : List Byte} {s t : State} (h : lightLimitsItem p s = .ok t) : s.SameSchedule t := by
  unfold lightLimitsItem at h
  dsimp only at h
  repeat' split at h
  all_goals cases h
  exact setLight_schedule s _

/-! ### The Button Unit -/

theorem setPress_schedule (s : State) (b : ButtonNo) (p : PressState) : s.SameSchedule (s.setPress b p) :=
  setButton_schedule s b _

theorem setLastAction_schedule (s : State) (b : ButtonNo) (o : PressOutcome) : s.SameSchedule (s.setLastAction b o) :=
  setButton_schedule s b _

theorem reportHeld_schedule (s : State) (cs : List Chan) : s.SameSchedule (s.reportHeld cs) :=
  .forEach (fun s _ => raise_schedule s _ _ _) cs s

theorem inputHigh_schedule (s : State) (b : ButtonNo) : s.SameSchedule (s.inputHigh b) := by
  unfold State.inputHigh State.setPress
  dsimp only
  repeat' split
  all_goals first
    | exact .refl s
    | exact setButton_schedule s b _
    | exact (setButton_schedule s b _).trans (setButton_schedule _ b _)
    | exact ((setButton_schedule s b _).trans (setButton_schedule _ b _)).trans (setButton_schedule _ b _)

theorem debounceExpiry_schedule (s : State) (b : ButtonNo) : s.SameSchedule (s.debounceExpiry b) := by
  unfold State.debounceExpiry
  split
  · split
    · exact setPress_schedule s b _
    · exact .refl s
  · exact .refl s

theorem buttonItem_schedule {p : List Byte} {s t : State} {b : ButtonNo} (h : buttonItem p s = .ok (b, t)) :
    s.SameSchedule t := by
  unfold buttonItem at h
  repeat' split at h
  all_goals cases h
  exact setButton_schedule s _ _

/-! ### The store and the supply -/

theorem endLoad_schedule (s : State) (l : LoadRecord) : s.SameSchedule (s.endLoad l) :=
  ((setStore_schedule s _).trans (setSupply_schedule _ _)).trans (raise_schedule _ _ _ _)

theorem interruptLoad_schedule (s : State) : s.SameSchedule s.interruptLoad := by
  unfold State.interruptLoad
  split
  · exact (setStore_schedule s _).trans (setSupply_schedule _ _)
  · exact .refl s

theorem cutProgramming_schedule (s : State) : s.SameSchedule s.cutProgramming := by
  unfold State.cutProgramming
  split
  · exact .refl s
  · exact ((setStore_schedule s _).trans (setStore_schedule _ _)).trans (setFreeIndex_schedule _ _)

theorem darkenLight_schedule (s : State) : s.SameSchedule s.darkenLight := updateLight_schedule s _

theorem releaseButton_schedule (s : State) (b : ButtonNo) : s.SameSchedule (s.releaseButton b) := setPress_schedule s b _

theorem sampleButton_schedule (s : State) (b : ButtonNo) : s.SameSchedule (s.sampleButton b) := setButton_schedule s b _

theorem enterBackup_schedule (s : State) : s.SameSchedule s.enterBackup := by
  unfold State.enterBackup
  dsimp only
  split
  · exact .refl s
  · refine .trans ?_ (.forEach releaseButton_schedule allButtons _)
    refine .trans ?_ (darkenLight_schedule _)
    refine .trans ?_ (loseLine_schedule _)
    refine .trans ?_ (abandonAll_schedule _)
    refine .trans ?_ (cutProgramming_schedule _)
    refine .trans ?_ (setPort_schedule _ _)
    refine .trans ?_ (raise_schedule _ _ _ _)
    exact (interruptLoad_schedule s).trans (setSupply_schedule _ _)

theorem enterRun_schedule (s : State) : s.SameSchedule s.enterRun :=
  ((setSupply_schedule s _).trans (raise_schedule _ _ _ _)).trans (reconcileAll_schedule _)

theorem countdownSecond_schedule (s : State) : s.SameSchedule s.countdownSecond := by
  unfold State.countdownSecond
  split
  · exact setSupply_schedule s _
  · exact .refl s

theorem countdownExpiry_schedule (s : State) : s.SameSchedule s.countdownExpiry := by
  unfold State.countdownExpiry
  split
  · exact enterRun_schedule s
  · exact .refl s

theorem retainedLoss_schedule (s : State) : s.SameSchedule s.retainedLoss := by
  unfold State.retainedLoss
  split
  · exact setSupply_schedule s _
  · exact .refl s

/-- The item of a running load that is due, applied or rejected, and counted (R161). -/
def State.takeItem (s : State) (n : NextItem) : State :=
  let type := readCell s.store.array n.offset
  let length := (readCell s.store.array (n.offset + 1)).toNat
  let next := n.offset + 2 + length
  match applyItem type (readCells s.store.array (n.offset + 2) length) s with
  | .ok v => v.setLoad (v.store.load.count n type none next)
  | .error r => s.setLoad (s.store.load.count n type (some r) next)

theorem loadStep_of_none {s : State} (h : s.loadStepDue = none) : s.loadStep = s := by
  unfold State.loadStep
  rw [h]

theorem loadStep_of_due {s : State} {n : NextItem} (h : s.loadStepDue = some n) :
    s.loadStep = if (s.takeItem n).store.load.finished n then (s.takeItem n).completeLoad else s.takeItem n := by
  unfold State.loadStep
  rw [h]
  rfl

/-- The state of a load on a good store once the retire phase is over (R160). -/
def State.retired (s : State) (src : LoadSource) : State :=
  let l := LoadRecord.fresh src s.store.array s.osc
  ((s.setLoad { l with phase := some .retire }).retirePhase).setLoad { l with phase := some .apply }

theorem startLoad_of_bad {s : State} {r : BadReason} (src : LoadSource) (h : headerTests s.store.array = some r) :
    s.startLoad src = s.endLoad { LoadRecord.fresh src s.store.array s.osc with
      state := .storeBad, phase := none, next := none, badReason := some r } := by
  unfold State.startLoad
  rw [h]

theorem startLoad_of_good {s : State} (src : LoadSource) (h : headerTests s.store.array = none) :
    s.startLoad src = if (readHeader (s.retired src).store.array).items = 0 then (s.retired src).completeLoad
      else s.retired src := by
  unfold State.startLoad
  rw [h]
  rfl

/-- The entry to RESTORING before a load that is owed: the restore or cold start, the countdown, the port and the samples (R145). -/
def State.restored (s : State) : State :=
  let u := if s.supply.signatureValid then s.warmRestore else s.coldStart
  let v := u.setSupply { u.supply with countdown := some u.supply.restoreDelay, countdownDue := u.cycles + Config.second }
  let w := (v.setPort v.port.quiet).setLight { v.light with nextSample := v.cycles + Config.second }
  w.forEach allButtons State.sampleButton

/-- The entry to RESTORING with the load that is owed started (R149). -/
def State.restoredLoading (s : State) : State :=
  if s.restored.supply.loadPending then s.restored.startLoad .restore else s.restored

theorem enterRestoring_eq (s : State) : s.enterRestoring =
    if s.restoredLoading.supply.restoreDelay = 0 then s.restoredLoading.enterRun else s.restoredLoading := rfl

/-! ### The port -/

theorem startTransaction_schedule (s : State) : s.SameSchedule s.startTransaction := by
  unfold State.startTransaction
  split
  · exact .refl s
  · exact setPort_schedule s _

theorem statusShifted_schedule (s : State) : s.SameSchedule s.statusShifted := by
  unfold State.statusShifted
  split
  · split
    · exact setPort_schedule s _
    · exact .refl s
  · exact .refl s

theorem latchReply_schedule (s : State) : s.SameSchedule s.latchReply := by
  unfold State.latchReply
  split
  · exact setPort_schedule s _
  · exact .refl s

theorem portReset_schedule (s : State) : s.SameSchedule s.portReset := by
  unfold State.portReset
  split
  · exact .refl s
  · exact (setPort_schedule s _).trans (setStore_schedule _ _)

theorem freeExecutor_schedule (s : State) : s.SameSchedule s.freeExecutor :=
  (setStore_schedule s _).trans (setPort_schedule _ _)

theorem cmdProgramStore_schedule {p : List Byte} {tag : Byte} {s t : State} (h : cmdProgramStore p tag s = .ok t) :
    s.SameSchedule t := by
  unfold cmdProgramStore at h
  repeat' split at h
  all_goals cases h
  exact (setStore_schedule s _).trans (setPort_schedule _ _)

/-! ### Commands that leave the schedule's items alone -/

/-- Whatever state a command answers with meets a condition. -/
def Answers (R : State → Prop) (a : Answer) : Prop := ∀ t q, a = .ok (t, q) → R t

section
variable {R : State → Prop} {r : Result}

theorem answers_ok {t : State} {q : List Byte} (h : R t) : Answers R (.ok (t, q)) := by
  intro u q' hu; cases hu; exact h

theorem answers_error : Answers R (.error r) := by intro u q hu; cases hu

theorem answers_check {ok : Bool} {a : Answer} (h : Answers R a) : Answers R (check ok r a) := fun t q ha =>
  h t q (check_ok ha).2

end

theorem timeSourceItem_schedule {p : List Byte} {s t : State} (hc : timeSourceItem p s = .ok t) : s.SameSchedule t := by
  unfold timeSourceItem at hc
  repeat' split at hc
  all_goals cases hc
  all_goals exact (setTimeBase_schedule s _).trans (judgeSource_schedule _)

theorem lineConfirmItem_schedule {p : List Byte} {s t : State} (hc : lineConfirmItem p s = .ok t) : s.SameSchedule t := by
  unfold lineConfirmItem at hc
  repeat' split at hc
  all_goals cases hc
  exact setLine_schedule s _

theorem supplyItem_schedule {p : List Byte} {s t : State} (hc : supplyItem p s = .ok t) : s.SameSchedule t := by
  unfold supplyItem at hc
  repeat' split at hc
  all_goals cases hc
  exact (setSupply_schedule s _).trans (setEngine_schedule _ _)

theorem withHandle_reads {s : State} {slot gen : Byte} {go : SlotNo → Entry → Answer} (h : ∀ i e, Answers (· = s) (go i e)) :
    Answers (· = s) (s.withHandle slot gen go) := fun t q ha => by
  obtain ⟨i, e, -, -, -, hg⟩ := withHandle_ok ha
  exact h i e t q hg

theorem cmdReadEntry_reads (p : List Byte) (s : State) : Answers (· = s) (cmdReadEntry p s) := by
  unfold cmdReadEntry
  split
  · exact withHandle_reads fun _ _ => answers_ok rfl
  · exact answers_error

theorem cmdFindEntries_reads (p : List Byte) (s : State) : Answers (· = s) (cmdFindEntries p s) := by
  unfold cmdFindEntries
  split
  · exact answers_check (answers_ok rfl)
  · exact answers_error

theorem cmdListExceptions_reads (p : List Byte) (s : State) : Answers (· = s) (cmdListExceptions p s) := by
  unfold cmdListExceptions
  split
  · exact answers_check (answers_ok rfl)
  · exact answers_error

theorem cmdDayClass_reads (p : List Byte) (s : State) : Answers (· = s) (cmdDayClass p s) := by
  unfold cmdDayClass
  split
  · split
    · exact answers_ok rfl
    · exact answers_error
  · exact answers_error

theorem cmdReadChannel_reads (p : List Byte) (s : State) : Answers (· = s) (cmdReadChannel p s) := by
  unfold cmdReadChannel
  split
  · split
    · exact answers_error
    · exact answers_check (answers_ok rfl)
  · exact answers_error

theorem cmdReadButton_reads (p : List Byte) (s : State) : Answers (· = s) (cmdReadButton p s) := by
  unfold cmdReadButton
  split
  · split
    · exact answers_error
    · exact answers_ok rfl
  · exact answers_error

theorem cmdReadLight_reads (p : List Byte) (s : State) : Answers (· = s) (cmdReadLight p s) := answers_check (answers_ok rfl)

theorem cmdReadTime_reads (p : List Byte) (s : State) : Answers (· = s) (cmdReadTime p s) := answers_check (answers_ok rfl)

theorem cmdReadLine_reads (p : List Byte) (s : State) : Answers (· = s) (cmdReadLine p s) := answers_check (answers_ok rfl)

theorem cmdReadSupply_reads (p : List Byte) (s : State) : Answers (· = s) (cmdReadSupply p s) := answers_check (answers_ok rfl)

theorem cmdLoadStatus_reads (p : List Byte) (s : State) : Answers (· = s) (cmdLoadStatus p s) := answers_check (answers_ok rfl)

theorem cmdIdentify_reads (p : List Byte) (s : State) : Answers (· = s) (cmdIdentify p s) := answers_check (answers_ok rfl)

theorem cmdReadStore_reads (p : List Byte) (s : State) : Answers (· = s) (cmdReadStore p s) := by
  unfold cmdReadStore
  split
  · exact answers_check (answers_ok rfl)
  · exact answers_error

theorem cmdAddException_schedule (p : List Byte) (s : State) : Answers s.SameSchedule (cmdAddException p s) := by
  unfold cmdAddException
  refine answers_check ?_
  split
  · rename_i ha; exact answers_ok (addExceptionItem_schedule ha)
  · exact answers_error

theorem cmdRemoveException_schedule (p : List Byte) (s : State) : Answers s.SameSchedule (cmdRemoveException p s) := by
  unfold cmdRemoveException
  refine answers_check ?_
  split
  · split
    · exact answers_check (answers_ok (keepRecords_schedule s _))
    · exact answers_error
  · exact answers_error

theorem cmdSetStagger_schedule (p : List Byte) (s : State) : Answers s.SameSchedule (cmdSetStagger p s) := by
  unfold cmdSetStagger
  split
  · exact answers_check (answers_ok (setEngine_schedule s _))
  · exact answers_error

theorem cmdConfigureButton_schedule (p : List Byte) (s : State) : Answers s.SameSchedule (cmdConfigureButton p s) := by
  unfold cmdConfigureButton
  refine answers_check ?_
  split
  · exact answers_error
  · rename_i hi; exact answers_ok (buttonItem_schedule hi)

theorem cmdSetLightLimits_schedule (p : List Byte) (s : State) : Answers s.SameSchedule (cmdSetLightLimits p s) := by
  unfold cmdSetLightLimits
  refine answers_check ?_
  split
  · exact answers_error
  · rename_i hi; exact answers_ok (lightLimitsItem_schedule hi)

theorem cmdSetTimeSource_schedule (p : List Byte) (s : State) : Answers s.SameSchedule (cmdSetTimeSource p s) := by
  unfold cmdSetTimeSource
  split
  · exact answers_error
  · rename_i hi; exact answers_ok (timeSourceItem_schedule hi)

theorem cmdSetLineConfirm_schedule (p : List Byte) (s : State) : Answers s.SameSchedule (cmdSetLineConfirm p s) := by
  unfold cmdSetLineConfirm
  split
  · exact answers_error
  · rename_i hi; exact answers_ok (lineConfirmItem_schedule hi)

theorem cmdSetSupply_schedule (p : List Byte) (s : State) : Answers s.SameSchedule (cmdSetSupply p s) := by
  unfold cmdSetSupply
  split
  · exact answers_ok (setSupply_schedule s _)
  · exact answers_error

theorem cmdReadChanges_schedule (p : List Byte) (s : State) : Answers s.SameSchedule (cmdReadChanges p s) := by
  unfold cmdReadChanges
  split
  · exact answers_check (answers_ok (setPort_schedule s _))
  · exact answers_error

theorem cmdSetNoticeMask_schedule (p : List Byte) (s : State) : Answers s.SameSchedule (cmdSetNoticeMask p s) := by
  unfold cmdSetNoticeMask
  split
  · exact answers_check (answers_ok (setPort_schedule s _))
  · exact answers_error

/-! ## The operations of the Schedule Table -/

theorem dropClaims_of_not_active (s : State) (i : SlotNo) {e : Entry} (h : e.state.isActive = false) : s.dropClaims i e = s := by
  simp [State.dropClaims, h]

theorem dropClaims_of_active (s : State) (i : SlotNo) {e : Entry} (h : e.state.isActive = true) :
    s.dropClaims i e = (s.removeClaims i e.body).raiseEntry i .claimEnded := by simp [State.dropClaims, h]

section
variable {P : State → Prop} (hP : ScheduleInvariant P)
include hP

theorem raise_keeps {s : State} (h : P s) (k : ChangeKind) (n : Nat) (r : Word) : P (s.raise k n r) :=
  hP.frame (raise_schedule s k n r) h

theorem raiseEntry_keeps {s : State} (h : P s) (i : SlotNo) (r : EntryReason) : P (s.raiseEntry i r) := raise_keeps hP h _ _ _

/-- An entry that is neither ACTIVE nor ENDED may be replaced by another such. -/
theorem setEntry_keeps {s : State} {i : SlotNo} {e e' : Entry} (he : (s.slot i).entry = some e) (hi : e.idle = true)
    (hi' : e'.idle = true) (h : P s) : P (s.setEntry i e') := by
  simp only [Entry.idle, Bool.and_eq_true, Bool.not_eq_true'] at hi
  have := hP.replace he hi.2 hi' h
  rwa [dropClaims_of_not_active s i hi.1] at this

/-- An entry that is neither ACTIVE nor ENDED may go to ENDED. -/
theorem toEnded_keeps {s : State} {i : SlotNo} {e : Entry} (he : (s.slot i).entry = some e) (hi : e.idle = true) (r : EndReason)
    (h : P s) : P (s.toEnded i e r) := by
  simp only [Entry.idle, Bool.and_eq_true, Bool.not_eq_true'] at hi
  have := hP.finish r he hi.2 h
  rwa [dropClaims_of_not_active s i hi.1] at this

theorem start_keeps {s : State} (i : SlotNo) (f : Option CalMinute) (h : P s) : P (s.start i f) := by
  unfold State.start
  split
  · exact h
  · rename_i e he
    split
    · rename_i hst
      have hi : e.idle = true := by simp [Entry.idle, hst, EntryState.isActive, EntryState.isEnded]
      split
      · exact raiseEntry_keeps hP (setEntry_keeps hP he hi (by simpa [Entry.idle] using hi) h) _ _
      · rename_i hf
        exact raiseEntry_keeps hP (hP.place f false he hi (Nat.le_of_not_lt hf) h) _ _
    · rename_i k m hst
      split
      · exact h
      · exact raiseEntry_keeps hP (hP.renew f m he (by rw [hst]; rfl) h) _ _
    · exact h

theorem endClaim_keeps {s : State} (i : SlotNo) (h : P s) : P (s.endClaim i) := by
  unfold State.endClaim
  split
  · exact h
  · rename_i e he
    split
    · rename_i k m hst
      have ha : e.state.isActive = true := by rw [hst]; rfl
      have hn : e.state.isEnded = false := by rw [hst]; rfl
      simp only [← dropClaims_of_active s i ha]
      split
      · exact raiseEntry_keeps hP (hP.finish _ he hn h) _ _
      · split
        · exact raiseEntry_keeps hP (hP.finish _ he hn h) _ _
        · exact hP.replace he hn rfl h
    · exact h

theorem catchUp_keeps {s : State} (i : SlotNo) (h : P s) : P (s.catchUp i) := by
  unfold State.catchUp
  split
  · exact h
  · split
    · split
      · dsimp only
        split
        · exact start_keeps hP i _ h
        · exact h
      · exact h
    · exact h

theorem tickSlot_keeps {s : State} (i : SlotNo) (h : P s) : P (s.tickSlot i) := by
  unfold State.tickSlot
  split
  · exact h
  · rename_i e he
    split
    · rename_i k m hst
      have hl : P (s.setEntry i { e with state := .active k.lowered m }) := hP.relabel he hst rfl h
      dsimp only
      split
      · exact endClaim_keeps hP i hl
      · exact hl
    · exact h

theorem expireSlot_keeps (b : Bool) {s : State} (i : SlotNo) (h : P s) : P (s.expireSlot b i) := by
  unfold State.expireSlot
  split
  · exact h
  · rename_i e he
    split
    · rename_i k m hst
      split
      · exact hP.relabel he hst rfl h
      · split
        · exact hP.relabel he hst rfl h
        · exact h
    · exact h
    · rename_i hna hne
      have hi : e.idle = true := by
        cases hst : e.state <;> simp_all [Entry.idle, EntryState.isActive, EntryState.isEnded]
      split
      · exact raiseEntry_keeps hP (toEnded_keeps hP he hi _ h) _ _
      · exact h

theorem armSlot_keeps {s : State} (i : SlotNo) (h : P s) : P (s.armSlot i) := by
  unfold State.armSlot
  split
  · exact h
  · rename_i e he
    split
    · rename_i hc
      have hw : e.state = .waiting := by simp only [Bool.and_eq_true, beq_iff_eq] at hc; exact hc.1
      exact setEntry_keeps hP he (by simp [Entry.idle, hw, EntryState.isActive, EntryState.isEnded]) rfl h
    · exact h

theorem startSlot_keeps {s : State} (i : SlotNo) (h : P s) : P (s.startSlot i) := by
  unfold State.startSlot
  split
  · exact h
  · split
    · exact start_keeps hP i _ h
    · exact h

theorem endPastSlot_keeps {s : State} (i : SlotNo) (h : P s) : P (s.endPastSlot i) := by
  unfold State.endPastSlot
  split
  · exact h
  · split
    · split
      · exact endClaim_keeps hP i h
      · exact h
    · exact h

omit hP in
theorem forEach_each {α : Type} {f : State → α → State} (hf : ∀ {s : State} (a : α), P s → P (f s a)) (l : List α) {s : State}
    (h : P s) : P (s.forEach l f) := forEach_keeps (fun _ a _ hs => hf a hs) h

theorem expiryArming_keeps (b : Bool) {s : State} (h : P s) : P (s.expiryTest b).arming :=
  forEach_each (fun i => armSlot_keeps hP i) _ (forEach_each (fun i => expireSlot_keeps hP b i) _ h)

theorem calendarDayWork_keeps {s : State} (h : P s) : P s.calendarDayWork := hP.frame (calendarDayWork_schedule s) h

theorem dayRollover_keeps {s : State} (h : P s) : P s.dayRollover := by
  unfold State.dayRollover
  dsimp only
  split
  · exact expiryArming_keeps hP false (calendarDayWork_keeps hP h)
  · exact calendarDayWork_keeps hP h

theorem minuteEvaluation_keeps {s : State} (h : P s) : P s.minuteEvaluation := by
  have hends := forEach_each (fun i => tickSlot_keeps hP i) allSlots h
  unfold State.minuteEvaluation
  dsimp only
  generalize s.forEach allSlots State.tickSlot = u at hends ⊢
  have hroll : P (if u.time.time.tod == ⟨0, 0⟩ then u.dayRollover else u) := by
    split
    · exact dayRollover_keeps hP hends
    · exact hends
  generalize (if u.time.time.tod == ⟨0, 0⟩ then u.dayRollover else u) = v at hroll ⊢
  split
  · exact forEach_each (fun i => startSlot_keeps hP i) _ hroll
  · exact hroll

theorem lightEndSlot_keeps (ev : LightEvent) {s : State} (i : SlotNo) (h : P s) : P (s.lightEndSlot ev i) := by
  unfold State.lightEndSlot
  split
  · exact h
  · split
    · exact endClaim_keeps hP i h
    · exact h

theorem lightStartSlot_keeps (ev : LightEvent) {s : State} (i : SlotNo) (h : P s) : P (s.lightStartSlot ev i) := by
  unfold State.lightStartSlot
  split
  · exact h
  · split
    · exact start_keeps hP i _ h
    · exact h

theorem lightEvent_keeps (ev : LightEvent) {s : State} (h : P s) : P (s.lightEvent ev) :=
  forEach_each (fun i => lightStartSlot_keeps hP ev i) _ (forEach_each (fun i => lightEndSlot_keeps hP ev i) _ h)

theorem setTimeSchedule_keeps {s : State} (h : P s) : P s.setTimeSchedule :=
  forEach_each (fun i => catchUp_keeps hP i) _
    (forEach_each (fun i => endPastSlot_keeps hP i) _ (expiryArming_keeps hP true h))

theorem retireStored_keeps {s : State} (i : SlotNo) (h : P s) : P (s.retireStored i) := by
  unfold State.retireStored
  split
  · exact h
  · split
    · exact hP.retire i h
    · exact h

/-- The slot chosen for a new entry is FREE in the state it is made in (R14). -/
theorem chooseSlot_keeps {s t : State} {i : SlotNo} (hc : s.chooseSlot = some (i, t)) (h : P s) :
    P t ∧ (t.slot i).entry = none := by
  unfold State.chooseSlot at hc
  split at hc
  · rename_i j hj
    cases hc
    exact ⟨h, by simpa using List.find?_some hj⟩
  · split at hc
    · rename_i j rest ho
      cases hc
      refine ⟨raiseEntry_keeps hP (hP.reclaim (by rw [ho]; simp) h) _ _, ?_⟩
      rw [State.raiseEntry_slot, clearSlot_slot]
    · cases hc

theorem makeEntry_keeps {s t : State} {o : Origin} {b : EntryBody} {i : SlotNo} (hm : s.makeEntry o b = .ok (i, t)) (h : P s) :
    P t := by
  unfold State.makeEntry at hm
  dsimp only at hm
  split at hm
  · cases hm
  · split at hm
    · cases hm
    · rename_i hc
      obtain ⟨hu, hn⟩ := chooseSlot_keeps hP hc h
      cases hm
      refine catchUp_keeps hP _ (raiseEntry_keeps hP (hP.fill hn ?_ hu) _ _)
      simp only [Entry.idle]; split <;> rfl

/-! ## The commands of the schedule blocks -/

theorem cmdCreateEntry_keeps {p q : List Byte} {s t : State} (hc : cmdCreateEntry p s = .ok (t, q)) (h : P s) : P t := by
  obtain ⟨-, hc⟩ := check_ok hc
  obtain ⟨-, hc⟩ := check_ok hc
  split at hc
  · cases hc
  · split at hc
    · cases hc
    · rename_i hm; cases hc; exact makeEntry_keeps hP hm h

theorem cmdModifyEntry_keeps {p q : List Byte} {s t : State} (hc : cmdModifyEntry p s = .ok (t, q)) (h : P s) : P t := by
  obtain ⟨-, hc⟩ := check_ok hc
  split at hc
  · obtain ⟨-, hc⟩ := check_ok hc
    obtain ⟨i, e, -, he, -, hc⟩ := withHandle_ok hc
    split at hc
    · cases hc
    · obtain ⟨hn, hc⟩ := check_ok hc
      obtain ⟨-, hc⟩ := check_ok hc
      cases hc
      refine catchUp_keeps hP _ (raiseEntry_keeps hP (hP.replace he (by simpa using hn) ?_ h) _ _)
      simp only [Entry.idle]; split <;> rfl
  · cases hc

theorem cmdSuspendEntry_keeps {p q : List Byte} {s t : State} (hc : cmdSuspendEntry p s = .ok (t, q)) (h : P s) : P t := by
  obtain ⟨i, e, he, hc⟩ := handleCommand_ok hc
  obtain ⟨hn, hc⟩ := check_ok hc
  have hend : e.state.isEnded = false := by simp only [Bool.and_eq_true, Bool.not_eq_true'] at hn; exact hn.1
  cases hc
  refine raiseEntry_keeps hP ?_ _ _
  split
  · exact raiseEntry_keeps hP (hP.finish _ he hend h) _ _
  · exact hP.replace he hend rfl h

theorem cmdResumeEntry_keeps {p q : List Byte} {s t : State} (hc : cmdResumeEntry p s = .ok (t, q)) (h : P s) : P t := by
  obtain ⟨i, e, he, hc⟩ := handleCommand_ok hc
  obtain ⟨hs, hc⟩ := check_ok hc
  have hi : e.idle = true := by simp [Entry.idle, of_decide_eq_true hs, EntryState.isActive, EntryState.isEnded]
  cases hc
  refine catchUp_keeps hP _ (raiseEntry_keeps hP ?_ _ _)
  split
  · exact raiseEntry_keeps hP (toEnded_keeps hP he hi _ h) _ _
  · exact setEntry_keeps hP he hi rfl h
  · exact setEntry_keeps hP he hi rfl h

theorem cmdRetireEntry_keeps {p q : List Byte} {s t : State} (hc : cmdRetireEntry p s = .ok (t, q)) (h : P s) : P t := by
  obtain ⟨i, e, -, hc⟩ := handleCommand_ok hc
  cases hc
  exact hP.retire i h

theorem cmdStartEntry_keeps {p q : List Byte} {s t : State} (hc : cmdStartEntry p s = .ok (t, q)) (h : P s) : P t := by
  obtain ⟨i, e, -, hc⟩ := handleCommand_ok hc
  obtain ⟨-, hc⟩ := check_ok hc
  cases hc
  exact start_keeps hP i _ h

theorem cmdEndEntry_keeps {p q : List Byte} {s t : State} (hc : cmdEndEntry p s = .ok (t, q)) (h : P s) : P t := by
  obtain ⟨i, e, -, hc⟩ := handleCommand_ok hc
  obtain ⟨-, hc⟩ := check_ok hc
  cases hc
  exact endClaim_keeps hP i h

theorem cmdClearAll_keeps {p q : List Byte} {s t : State} (hc : cmdClearAll p s = .ok (t, q)) (h : P s) : P t := by
  obtain ⟨-, hc⟩ := check_ok hc
  obtain ⟨-, hc⟩ := check_ok hc
  simp only [Except.ok.injEq, Prod.mk.injEq] at hc
  rw [← hc.1]
  exact hP.clearAll h

theorem cmdOverride_keeps {p q : List Byte} {s t : State} (hc : cmdOverride p s = .ok (t, q)) (h : P s) : P t := by
  unfold cmdOverride at hc
  split at hc
  · split at hc
    · obtain ⟨-, hc⟩ := check_ok hc
      cases hc
      exact hP.pass _ (putOverride_channelOp _ _ _) h
    · cases hc
  · cases hc

theorem cmdClearOverride_keeps {p q : List Byte} {s t : State} (hc : cmdClearOverride p s = .ok (t, q)) (h : P s) : P t := by
  unfold cmdClearOverride at hc
  split at hc
  · obtain ⟨-, hc⟩ := check_ok hc
    cases hc
    exact hP.pass _ dropOverride_channelOp h
  · cases hc

theorem cmdHold_keeps {p q : List Byte} {s t : State} (hc : cmdHold p s = .ok (t, q)) (h : P s) : P t := by
  unfold cmdHold at hc
  split at hc
  · split at hc
    · obtain ⟨-, hc⟩ := check_ok hc
      cases hc
      exact hP.pass _ (putHold_channelOp _) h
    · cases hc
  · cases hc

theorem cmdReleaseHold_keeps {p q : List Byte} {s t : State} (hc : cmdReleaseHold p s = .ok (t, q)) (h : P s) : P t := by
  unfold cmdReleaseHold at hc
  split at hc
  · obtain ⟨-, hc⟩ := check_ok hc
    cases hc
    exact hP.pass _ dropHold_channelOp h
  · cases hc

theorem configureItem_keeps {p : List Byte} {s t : State} {c : Chan} (hc : configureItem p s = .ok (c, t)) (h : P s) : P t := by
  unfold configureItem at hc
  repeat' split at hc
  all_goals cases hc
  exact hP.config _ _ h

theorem cmdConfigureChannel_keeps {p q : List Byte} {s t : State} (hc : cmdConfigureChannel p s = .ok (t, q)) (h : P s) : P t := by
  obtain ⟨-, hc⟩ := check_ok hc
  split at hc
  · cases hc
  · rename_i hi; cases hc; exact configureItem_keeps hP hi h

theorem takeTime_keeps {s : State} (x : CalTime) (h : P s) : P (s.takeTime x) := by
  unfold State.takeTime
  refine setTimeSchedule_keeps hP (calendarDayWork_keeps hP ?_)
  split
  · exact hP.frame (setTimeBase_schedule s _) h
  · exact raise_keeps hP (hP.frame (setTimeBase_schedule s _) h) _ _ _

theorem cmdSetTime_keeps {p q : List Byte} {s t : State} (hc : cmdSetTime p s = .ok (t, q)) (h : P s) : P t := by
  unfold cmdSetTime at hc
  split at hc
  · split at hc
    · cases hc
    · obtain ⟨-, hc⟩ := check_ok hc
      simp only [Except.ok.injEq, Prod.mk.injEq] at hc
      rw [← hc.1]
      exact takeTime_keeps hP _ h
  · cases hc

/-! ## Loads -/

theorem setLoad_keeps {s : State} (l : LoadRecord) (h : P s) : P (s.setLoad l) := hP.frame (setStore_schedule s _) h

theorem completeLoad_keeps {s : State} (h : P s) : P s.completeLoad := hP.frame (endLoad_schedule s _) h

theorem retirePhase_keeps {s : State} (h : P s) : P s.retirePhase :=
  hP.frame (keepRecords_schedule _ _) (forEach_each (fun i => retireStored_keeps hP i) allSlots h)

theorem startLoad_keeps (src : LoadSource) {s : State} (h : P s) : P (s.startLoad src) := by
  cases ht : headerTests s.store.array with
  | some r => rw [startLoad_of_bad src ht]; exact hP.frame (endLoad_schedule s _) h
  | none =>
    have hret : P (s.retired src) := setLoad_keeps hP _ (retirePhase_keeps hP (setLoad_keeps hP _ h))
    rw [startLoad_of_good src ht]
    split
    · exact completeLoad_keeps hP hret
    · exact hret

theorem applyItem_keeps {type : Byte} {p : List Byte} {s t : State} (hc : applyItem type p s = .ok t) (h : P s) : P t := by
  unfold applyItem at hc
  split at hc
  · cases hr : configureItem p s with
    | error r => rw [hr] at hc; cases hc
    | ok x => rw [hr] at hc; cases hc; exact configureItem_keeps hP hr h
  · unfold entryItem at hc
    split at hc
    · split at hc
      · cases hc
      · split at hc
        · cases hc
        · rename_i hm; cases hc; exact makeEntry_keeps hP hm h
    · cases hc
  · exact hP.frame (addExceptionItem_schedule hc) h
  · exact hP.frame (lightLimitsItem_schedule hc) h
  · cases hr : buttonItem p s with
    | error r => rw [hr] at hc; cases hc
    | ok x => rw [hr] at hc; cases hc; exact hP.frame (buttonItem_schedule hr) h
  · exact hP.frame (lineConfirmItem_schedule hc) h
  · exact hP.frame (supplyItem_schedule hc) h
  · exact hP.frame (timeSourceItem_schedule hc) h
  · cases hc

theorem cmdLoadDefaults_keeps {p q : List Byte} {s t : State} (hc : cmdLoadDefaults p s = .ok (t, q)) (h : P s) : P t := by
  obtain ⟨-, hc⟩ := check_ok hc
  obtain ⟨-, hc⟩ := check_ok hc
  cases hc
  exact startLoad_keeps hP .host h

theorem takeItem_keeps {s : State} (n : NextItem) (h : P s) : P (s.takeItem n) := by
  unfold State.takeItem
  dsimp only
  split
  · rename_i v hv
    exact setLoad_keeps hP _ (applyItem_keeps hP hv h)
  · exact setLoad_keeps hP _ h

theorem loadStep_keeps {s : State} (h : P s) : P s.loadStep := by
  cases hd : s.loadStepDue with
  | none => rw [loadStep_of_none hd]; exact h
  | some n =>
    rw [loadStep_of_due hd]
    split
    · exact completeLoad_keeps hP (takeItem_keeps hP n h)
    · exact takeItem_keeps hP n h

/-! ## The supply -/

theorem coldStart_keeps (s : State) : P s.coldStart := raise_keeps hP (hP.frame (setSupply_schedule _ _) (hP.cold s)) _ _ _

theorem powerUpValues_keeps (s : State) (b : Bool) : P (s.powerUpValues b) := hP.frame (setSupply_schedule _ _) (hP.cold _)

theorem restored_keeps {s : State} (h : P s) : P s.restored := by
  unfold State.restored
  dsimp only
  refine hP.frame (.forEach sampleButton_schedule allButtons _) ?_
  refine hP.frame (((setSupply_schedule _ _).trans (setPort_schedule _ _)).trans (setLight_schedule _ _)) ?_
  split
  · exact raise_keeps hP (hP.frame (setSupply_schedule s _) h) _ _ _
  · exact coldStart_keeps hP s

theorem restoredLoading_keeps {s : State} (h : P s) : P s.restoredLoading := by
  unfold State.restoredLoading
  split
  · exact startLoad_keeps hP .restore (restored_keeps hP h)
  · exact restored_keeps hP h

theorem enterRestoring_keeps {s : State} (h : P s) : P s.enterRestoring := by
  rw [enterRestoring_eq]
  split
  · exact hP.frame (enterRun_schedule _) (restoredLoading_keeps hP h)
  · exact restoredLoading_keeps hP h

theorem mainsReturn_keeps {s : State} (h : P s) : P s.mainsReturn := by
  unfold State.mainsReturn
  split
  · split
    · exact enterRestoring_keeps hP (powerUpValues_keeps hP s _)
    · exact enterRestoring_keeps hP h
  · exact h

theorem powerUp_keeps {s : State} (h : P s) (a b : Bool) : P (s.powerUp a b) := by
  unfold State.powerUp
  dsimp only
  split
  · split
    · exact enterRestoring_keeps hP (powerUpValues_keeps hP s b)
    · exact powerUpValues_keeps hP s b
  · exact h

/-! ## The buttons -/

theorem shortPress_keeps {s : State} (h : P s) (b : ButtonNo) : P (s.shortPress b) := by
  have hreport {s : State} (cs : List Chan) (h : P s) : P (s.reportHeld cs) := hP.frame (reportHeld_schedule s cs) h
  unfold State.shortPress
  dsimp only
  split
  · exact hP.frame (setLastAction_schedule _ b _) (hreport _ h)
  · exact hP.frame (setLastAction_schedule _ b _) (hP.pass _ (putOverride_channelOp _ _ _) (hreport _ h))

theorem longPressAction_keeps {s : State} (h : P s) (b : ButtonNo) : P (s.longPressAction b) := by
  have hreport {s : State} (cs : List Chan) (h : P s) : P (s.reportHeld cs) := hP.frame (reportHeld_schedule s cs) h
  unfold State.longPressAction
  dsimp only
  split
  · exact hP.frame (setLastAction_schedule _ b _) (hreport _ h)
  · exact hP.frame (setLastAction_schedule _ b _) (hP.pass _ dropOverride_channelOp (hreport _ h))

theorem setPress_keeps {s : State} (h : P s) (b : ButtonNo) (p : PressState) : P (s.setPress b p) :=
  hP.frame (setPress_schedule s b p) h

theorem releaseConfirm_keeps {s : State} (h : P s) (b : ButtonNo) : P (s.releaseConfirm b) := by
  unfold State.releaseConfirm
  split
  · split
    · split
      · exact setPress_keeps hP (shortPress_keeps hP h b) b _
      · exact setPress_keeps hP (hP.frame (setLastAction_schedule s b _) h) b _
    · exact setPress_keeps hP h b _
  · exact h

theorem inputLow_keeps {s : State} (h : P s) (b : ButtonNo) : P (s.inputLow b) := by
  have hbutton {s : State} (x : Button) (h : P s) : P (s.setButton b x) := hP.frame (setButton_schedule s b x) h
  unfold State.inputLow
  dsimp only
  split
  · exact h
  · have h1 := hbutton { (s.releaseConfirm b).button b with pinLow := true } (releaseConfirm_keeps hP h b)
    generalize (s.releaseConfirm b).setButton b { (s.releaseConfirm b).button b with pinLow := true } = u at h1 ⊢
    have h2 : P (if u.supply.state = .backup then u else u.setButton b { u.button b with sampledLow := true }) := by
      split
      · exact h1
      · exact hbutton _ h1
    generalize (if u.supply.state = .backup then u else u.setButton b { u.button b with sampledLow := true }) = v at h2 ⊢
    split
    · split
      · exact setPress_keeps hP h2 b _
      · exact setPress_keeps hP h2 b _
      · split
        · exact setPress_keeps hP (longPressAction_keeps hP h2 b) b _
        · exact setPress_keeps hP h2 b _
      · exact setPress_keeps hP h2 b _
    · exact h2

theorem longPress_keeps {s : State} (h : P s) (b : ButtonNo) : P (s.longPress b) := by
  unfold State.longPress
  split
  · exact setPress_keeps hP (longPressAction_keeps hP h b) b _
  · exact h

theorem luxSample_keeps {s : State} (h : P s) (v : Nat) : P (s.luxSample v) := by
  unfold State.luxSample
  split
  · split
    · exact hP.frame (updateLight_schedule s _) h
    · exact lightEvent_keeps hP _ (hP.frame (updateLight_schedule s _) h)
  · exact h

/-! ## The executor and the port -/

theorem runCommand_keeps {cmd : Byte} {p q : List Byte} {s t : State} (hc : runCommand cmd p s = .ok (t, q)) (h : P s) : P t := by
  have hread {a : Answer} (ha : Answers (· = s) a) (hc : a = .ok (t, q)) : P t := ha t q hc ▸ h
  have hframe {a : Answer} (ha : Answers s.SameSchedule a) (hc : a = .ok (t, q)) : P t := hP.frame (ha t q hc) h
  unfold runCommand at hc
  split at hc
  · exact cmdCreateEntry_keeps hP hc h
  · exact hread (cmdReadEntry_reads p s) hc
  · exact cmdModifyEntry_keeps hP hc h
  · exact cmdSuspendEntry_keeps hP hc h
  · exact cmdResumeEntry_keeps hP hc h
  · exact cmdRetireEntry_keeps hP hc h
  · exact cmdStartEntry_keeps hP hc h
  · exact cmdEndEntry_keeps hP hc h
  · exact hread (cmdFindEntries_reads p s) hc
  · exact cmdClearAll_keeps hP hc h
  · exact hframe (cmdAddException_schedule p s) hc
  · exact hframe (cmdRemoveException_schedule p s) hc
  · exact hread (cmdListExceptions_reads p s) hc
  · exact hread (cmdDayClass_reads p s) hc
  · exact cmdOverride_keeps hP hc h
  · exact cmdClearOverride_keeps hP hc h
  · exact cmdHold_keeps hP hc h
  · exact cmdReleaseHold_keeps hP hc h
  · exact hread (cmdReadChannel_reads p s) hc
  · exact cmdConfigureChannel_keeps hP hc h
  · exact hframe (cmdSetStagger_schedule p s) hc
  · exact hframe (cmdConfigureButton_schedule p s) hc
  · exact hread (cmdReadButton_reads p s) hc
  · exact hframe (cmdSetLightLimits_schedule p s) hc
  · exact hread (cmdReadLight_reads p s) hc
  · exact cmdSetTime_keeps hP hc h
  · exact hread (cmdReadTime_reads p s) hc
  · exact hframe (cmdSetTimeSource_schedule p s) hc
  · exact hframe (cmdSetLineConfirm_schedule p s) hc
  · exact hread (cmdReadLine_reads p s) hc
  · exact hframe (cmdSetSupply_schedule p s) hc
  · exact hread (cmdReadSupply_reads p s) hc
  · exact hread (cmdReadStore_reads p s) hc
  · exact cmdLoadDefaults_keeps hP hc h
  · exact hread (cmdLoadStatus_reads p s) hc
  · exact hframe (cmdReadChanges_schedule p s) hc
  · exact hframe (cmdSetNoticeMask_schedule p s) hc
  · exact hread (cmdIdentify_reads p s) hc
  · cases hc

theorem execute_keeps {s : State} (h : P s) (rq : Request) : P (s.execute rq) := by
  unfold State.execute
  split
  · split
    · rename_i hc; exact hP.frame (cmdProgramStore_schedule hc) h
    · exact hP.frame (setPort_schedule s _) h
  · unfold State.answer
    split
    · rename_i hc; exact hP.frame (setPort_schedule _ _) (runCommand_keeps hP hc h)
    · exact hP.frame (setPort_schedule s _) h

theorem takeRequests_keeps (n : Nat) {s : State} (h : P s) : P (s.takeRequests n) := by
  induction n generalizing s with
  | zero => exact h
  | succ n ih =>
    unfold State.takeRequests
    split
    · exact h
    · split
      · exact ih (execute_keeps hP (hP.frame (setPort_schedule s _) h) _)
      · exact h

theorem executor_keeps {s : State} (h : P s) : P s.executor := takeRequests_keeps hP _ h

/-- The executor's test behind a change at the port alone. -/
theorem setPort_executor_keeps {s : State} (h : P s) (x : HostPort) : P (s.setPort x).executor :=
  executor_keeps hP (hP.frame (setPort_schedule s x) h)

theorem submit_keeps {s : State} (h : P s) (cmd tag : Byte) (p : List Byte) : P (s.submit cmd tag p) := by
  unfold State.submit
  split
  · split
    · exact setPort_executor_keeps hP h _
    · exact hP.frame (setPort_schedule s _) h
  · exact h

theorem endReplyRead_keeps {s : State} (h : P s) (x : Transaction) (n : Nat) : P (s.endReplyRead x n) := by
  unfold State.endReplyRead
  split
  · split
    · exact setPort_executor_keeps hP h _
    · exact h
  · exact h

theorem judgeFrame_keeps {s : State} (h : P s) (bytes : List Byte) (n : Nat) : P (s.judgeFrame bytes n) := by
  unfold State.judgeFrame
  split
  · split
    · exact setPort_executor_keeps hP h _
    · exact hP.frame (setPort_schedule s _) h
  · exact hP.frame (setPort_schedule s _) h

theorem raiseCsn_keeps {s : State} (h : P s) : P s.raiseCsn := hP.frame (setPort_schedule s _) h

theorem endRequest_keeps {s : State} (h : P s) (bytes : List Byte) (n : Nat) : P (s.endRequest bytes n) := by
  unfold State.endRequest
  split
  · exact raiseCsn_keeps hP h
  · split
    · exact raiseCsn_keeps hP h
    · split
      · exact endReplyRead_keeps hP (raiseCsn_keeps hP h) _ _
      · exact judgeFrame_keeps hP (raiseCsn_keeps hP h) _ _

theorem endRead_keeps {s : State} (h : P s) (n : Nat) : P (s.endRead n) := by
  unfold State.endRead
  split
  · exact raiseCsn_keeps hP h
  · exact endReplyRead_keeps hP (raiseCsn_keeps hP h) _ _

theorem portRelease_keeps {s : State} (h : P s) : P s.portRelease := by
  unfold State.portRelease
  split
  · exact setPort_executor_keeps hP h _
  · exact h

theorem programByteDone_keeps {s : State} (h : P s) : P s.programByteDone := by
  unfold State.programByteDone
  split
  · exact h
  · rename_i pr _
    have harray := hP.frame (setStore_schedule s { s.store with array := pr.burn s.store.array }) h
    dsimp only
    split
    · exact executor_keeps hP (hP.frame (freeExecutor_schedule _) harray)
    · split
      · exact setPort_executor_keeps hP (hP.frame (freeExecutor_schedule _) harray) _
      · exact hP.frame (setStore_schedule _ _) harray

theorem takeMinuteTick_keeps {s : State} (h : P s) : P s.takeMinuteTick := by
  unfold State.takeMinuteTick
  split
  · exact minuteEvaluation_keeps hP (hP.frame (setTimeBase_schedule s _) h)
  · exact h

theorem takeClaimTick_keeps {s : State} (h : P s) : P s.takeClaimTick := by
  unfold State.takeClaimTick
  split
  · exact hP.pass allChannels countdownChannel_channelOp (hP.frame (setTimeBase_schedule s _) h)
  · exact h

/-! ## A step -/

theorem exec_keeps (x : Instr) {s t : State} (hx : exec x s = .next t) (h : P s) : P t := by
  have hnext {u : State} (hu : P u) (he : (.next u : Effect) = .next t) : P t := by cases he; exact hu
  have hrow {cmd tag : Byte} {p : List Byte} (he : (.next (s.submit cmd tag p) : Effect) = .next t) : P t :=
    hnext (submit_keeps hP h cmd tag p) he
  have hdt (dt : Nat) : P (s.elapse dt) := hP.frame (elapse_schedule s dt) h
  have hframe {dt : Nat} {f : State → State} (hf : ∀ u : State, u.SameSchedule (f u))
      (he : (.next (f (s.elapse dt)) : Effect) = .next t) : P t := hnext (hP.frame (hf _) (hdt dt)) he
  cases x with
  | transactionStart dt => exact hframe startTransaction_schedule hx
  | statusByteShifted dt => exact hframe statusShifted_schedule hx
  | replyLatch dt => exact hframe latchReply_schedule hx
  | requestFrame dt bytes n => exact hnext (endRequest_keeps hP (hdt dt) bytes n) hx
  | replyReadEnd dt n => exact hnext (endRead_keeps hP (hdt dt) n) hx
  | portReset dt => exact hframe portReset_schedule hx
  | portResetRelease dt => exact hnext (portRelease_keeps hP (hdt dt)) hx
  | programByteDone dt => exact hnext (programByteDone_keeps hP (hdt dt)) hx
  | enterBackup dt => exact hframe enterBackup_schedule hx
  | mainsReturn dt => exact hnext (mainsReturn_keeps hP (hdt dt)) hx
  | restoreCountdownExpiry dt => exact hframe countdownExpiry_schedule hx
  | retainedSupplyLoss dt => exact hframe retainedLoss_schedule hx
  | powerUp a b => exact hnext (powerUp_keeps hP h a b) hx
  | secondBoundary dt => exact hframe secondBoundary_schedule hx
  | minuteEvaluation dt => exact hnext (takeMinuteTick_keeps hP (hdt dt)) hx
  | overrideCountdown dt => exact hnext (takeClaimTick_keeps hP (hdt dt)) hx
  | risingCrossing dt => exact hframe risingCrossing_schedule hx
  | fallingCrossing dt => exact hframe fallingCrossing_schedule hx
  | absenceTimeout dt => exact hframe absenceTimeout_schedule hx
  | crystalStop dt => exact hframe stopCrystal_schedule hx
  | crystalRun dt => exact hframe runCrystal_schedule hx
  | crystalTick dt => exact hframe crystalTick_schedule hx
  | coilAction dt c => exact hframe (fun u => coilAction_schedule u c) hx
  | pulseStart dt c => exact hframe (fun u => pulseStart_schedule u c) hx
  | operationComplete dt c => exact hframe (fun u => complete_schedule u c) hx
  | buttonInputLow dt b => exact hnext (inputLow_keeps hP (hdt dt) b) hx
  | buttonInputHigh dt b => exact hframe (fun u => inputHigh_schedule u b) hx
  | buttonDebounceExpiry dt b => exact hframe (fun u => debounceExpiry_schedule u b) hx
  | buttonReleaseConfirm dt b => exact hnext (releaseConfirm_keeps hP (hdt dt) b) hx
  | longPress dt b => exact hnext (longPress_keeps hP (hdt dt) b) hx
  | luxSample dt v => exact hnext (luxSample_keeps hP (hdt dt) _) hx
  | loadStep dt => exact hnext (loadStep_keeps hP (hdt dt)) hx
  | restoreCountdownSecond dt => exact hframe countdownSecond_schedule hx
  | _ => exact hrow hx

/-- A schedule invariant is kept by every step. -/
theorem step_keeps {s t : State} (hs : step s = .next t) (h : P s) : P t := by
  unfold step at hs
  split at hs
  · exact exec_keeps hP _ hs (hP.frame (setPending_schedule s _) h)
  · split at hs
    · exact exec_keeps hP _ hs h
    · cases hs; exact hP.frame (elapse_schedule s 1) h

end

/-- Settles O12: the targets, and the lists with the pool and the ENDED order, are each a schedule invariant. -/
theorem stepKeepsTargets : Obligations.StepKeepsTargets :=
  ⟨fun _ _ h hs => step_keeps targetsOk_invariant hs h, fun _ _ h hs => step_keeps scheduleOk_invariant hs h⟩

end Sys2Proof.Machine
end

/-! The reset state: its cold-start values, and the invariants that it meets. -/

section
namespace Sys2Proof.Machine

/-! ## The records of the reset state -/

theorem reset_slot (i : SlotNo) : State.reset.slot i = ⟨0, none⟩ := by
  simp [State.reset, State.slot, ScheduleTable.cold]

theorem reset_chan (c : Chan) : State.reset.chan c = Channel.cold := by
  simp [State.reset, State.chan]

theorem reset_button (b : ButtonNo) : State.reset.button b = Button.cold false := by
  simp [State.reset, State.button]

/-- Settles O4: each item is read off the reset state's own records. -/
theorem resetHasColdStartValues : Obligations.ResetHasColdStartValues := by
  refine ⟨reset_slot, rfl, rfl, rfl, fun c => ?_, rfl, rfl, fun b => ?_, ?_⟩
  · rw [reset_chan]; exact ⟨rfl, rfl, rfl, rfl, rfl, rfl, rfl, rfl⟩
  · rw [reset_button]; exact ⟨rfl, rfl, rfl, rfl, rfl, rfl⟩
  · and_intros
    all_goals intros; rfl

/-! ## The invariants at reset -/

/-- The reset state has the schedule's items of a cold start. -/
theorem reset_schedule : State.reset.coldValues.SameSchedule State.reset := .of_blocks rfl rfl rfl

theorem reset_engineOk : State.reset.EngineOk where
  once := .nil
  queued c := by rw [reset_chan]; exact iff_of_false (by simp [State.reset]) (by decide)
  pins c := by rw [reset_chan]; rfl
  quiet _ c := by rw [reset_chan]; rfl

theorem reset_relaysAgree : State.reset.RelaysAgree where
  differ c hc := absurd hc (by simp [State.reset])
  coil c hc := by rw [reset_chan] at hc; exact absurd hc (by decide)

theorem reset_portOk : State.reset.PortOk where
  requests := by decide
  replies := by decide
  busy := rfl
  place pr h := by cases h
  dead h := by cases h

theorem reset_lightOk : State.reset.light.Ok where
  confirm := by decide
  faults := by decide
  limits := by decide
  count := by decide
  sample v h := by cases h

/-- Settles O10: the two schedule invariants hold of every cold start; the others are read off the reset state. -/
theorem resetMeetsInvariants : Obligations.ResetMeetsInvariants :=
  ⟨reset_engineOk, targetsOk_frame reset_schedule (targetsOk_cold _), reset_portOk, ⟨List.pairwise_singleton _ _, by decide⟩,
    ⟨rfl, fun pr h => by cases h⟩, ⟨by decide, .nil, .nil⟩, by decide, reset_lightOk, reset_relaysAgree,
    scheduleOk_frame reset_schedule (scheduleOk_cold _)⟩

end Sys2Proof.Machine
end

/-! A command on a ready port, the handle it names, and what the operations on one slot leave there. -/

section
namespace Sys2Proof.Machine

/-! ## A command on a ready port (R176, R180) -/

theorem submit_replied {s t : State} {cmd tag : Byte} {p payload : List Byte} (h : s.Ready) (hp : p.length ≤ Config.maxParams)
    (hc : cmd ≠ 0x69) (ha : cmd ≠ 0x6A) (hr : runCommand cmd p s = .ok (t, payload)) :
    s.submit cmd tag p = t.replied cmd tag payload := by
  rw [submit_taken h hp hc hr, takenResult, if_neg ha]
  rfl

/-! ## Handles (R2) -/

theorem readSlotNo_of_le {b : Byte} (h : 128 ≤ b.toNat) : readSlotNo b = none := by
  rw [readSlotNo, dif_neg (Nat.not_lt.mpr h)]

theorem byteOf_of_readSlotNo {b : Byte} {i : SlotNo} (h : readSlotNo b = some i) : byteOf i.val = b := by
  unfold readSlotNo at h
  split at h
  · cases h; simp [byteOf]
  · cases h

theorem withHandle_of_none {s : State} {slot gen : Byte} {go : SlotNo → Entry → Answer} (h : readSlotNo slot = none) :
    s.withHandle slot gen go = .error .badField := by
  unfold State.withHandle
  rw [h]

theorem withHandle_of_stale {s : State} {slot gen : Byte} {go : SlotNo → Entry → Answer} {i : SlotNo} (h : readSlotNo slot = some i)
    (hs : (s.slot i).entry = none ∨ (s.slot i).generation ≠ gen) : s.withHandle slot gen go = .error .staleHandle := by
  unfold State.withHandle
  simp only [h]
  split
  · rfl
  · rename_i e he
    exact if_neg (hs.resolve_left (by simp [he]))

theorem withHandle_of_entry {s : State} {slot gen : Byte} {go : SlotNo → Entry → Answer} {i : SlotNo} {e : Entry}
    (h : readSlotNo slot = some i) (hi : s.slot i = ⟨gen, some e⟩) : s.withHandle slot gen go = go i e := by
  unfold State.withHandle
  rw [h]
  simp [hi]

theorem handleCommand_eq {s : State} (slot gen : Byte) (go : SlotNo → Entry → Answer) (hl : s.loadRunning = false) :
    handleCommand [slot, gen] s go = s.withHandle slot gen go := by
  unfold handleCommand
  rw [hl]
  rfl

theorem handleCommand_of_entry {s : State} {slot gen : Byte} {go : SlotNo → Entry → Answer} {i : SlotNo} {e : Entry}
    (hl : s.loadRunning = false) (h : readSlotNo slot = some i) (hi : s.slot i = ⟨gen, some e⟩) :
    handleCommand [slot, gen] s go = go i e := by
  rw [handleCommand_eq slot gen go hl, withHandle_of_entry h hi]

/-- A command that checks a handle first refuses a slot number out of range and a handle that names no entry (R2). -/
theorem submit_handle_refusals {s : State} {cmd tag slot gen : Byte} {p : List Byte} {go : SlotNo → Entry → Answer} (h : s.Ready)
    (hp : p.length ≤ Config.maxParams) (hc : cmd ≠ 0x69) (hr : runCommand cmd p s = s.withHandle slot gen go) :
    (128 ≤ slot.toNat → s.submit cmd tag p = s.refusedWith cmd tag .badField) ∧
      (∀ i, readSlotNo slot = some i → (s.slot i).entry = none ∨ (s.slot i).generation ≠ gen →
        s.submit cmd tag p = s.refusedWith cmd tag .staleHandle) :=
  ⟨fun hs => submit_refused h hp hc (hr.trans (withHandle_of_none (readSlotNo_of_le hs))),
    fun _ hi hs => submit_refused h hp hc (hr.trans (withHandle_of_stale hi hs))⟩

theorem optionalBytes_le (b : Byte) : optionalBytes b ≤ 16 := by
  unfold optionalBytes
  repeat' split
  all_goals omega

/-- A body whose length is right fits a request, with a handle before it or not. -/
theorem length_of_bodyLengthOk {p : List Byte} (h : bodyLengthOk p = true) : p.length ≤ 30 := by
  simp only [bodyLengthOk, Bool.and_eq_true, beq_iff_eq] at h
  have := optionalBytes_le (p.getD 13 0)
  omega

theorem cmdModifyEntry_eq {s : State} (slot gen : Byte) {body : List Byte} (hl : s.loadRunning = false)
    (hb : bodyLengthOk body = true) : cmdModifyEntry (slot :: gen :: body) s = s.withHandle slot gen fun i e =>
      match readBody body with
      | none => .error .badField
      | some b =>
        check (!e.state.isEnded) .wrongState <| check (s.judge b != .expired) .expiredAlready <|
          let state : EntryState := if s.judge b = .armed then .armed else .waiting
          let s := (s.dropClaims i e).setEntry i { e with origin := .host, body := b, state := state }
          let s := (s.raiseEntry i .modified).catchUp i
          .ok (s, [s.stateCode i]) := by
  unfold cmdModifyEntry
  rw [hl]
  simp only [hb, Bool.not_false, check_true] <;> rfl

/-- Settles O21: each of the seven commands goes to the handle's check, once its own length and the load allow it. -/
theorem handlesAreChecked : Obligations.HandlesAreChecked := by
  intro s tag slot gen body h hl hb x hx
  have hlen := length_of_bodyLengthOk hb
  have hmodify : (slot :: gen :: body).length ≤ Config.maxParams := by
    simp only [List.length_cons, Config.maxParams]; omega
  have hnext {i : Instr} {c : Byte} {u : State} (hu : exec i s = .next u)
      (hr : (128 ≤ slot.toNat → u = s.refusedWith c tag .badField) ∧
        (∀ i, readSlotNo slot = some i → (s.slot i).entry = none ∨ (s.slot i).generation ≠ gen →
          u = s.refusedWith c tag .staleHandle)) :
      (128 ≤ slot.toNat → exec i s = .next (s.refusedWith c tag .badField)) ∧
        (∀ j, readSlotNo slot = some j → (s.slot j).entry = none ∨ (s.slot j).generation ≠ gen →
          exec i s = .next (s.refusedWith c tag .staleHandle)) :=
    ⟨fun hs => hu.trans (congrArg _ (hr.1 hs)), fun j hj hs => hu.trans (congrArg _ (hr.2 j hj hs))⟩
  simp only [List.mem_cons, List.not_mem_nil, or_false] at hx
  obtain rfl | rfl | rfl | rfl | rfl | rfl | rfl := hx
  · exact hnext rfl (submit_handle_refusals h (by simp [Config.maxParams]) (by decide) rfl)
  · exact hnext rfl (submit_handle_refusals h hmodify (by decide) (cmdModifyEntry_eq slot gen hl hb))
  all_goals
    exact hnext rfl (submit_handle_refusals h (by simp [Config.maxParams]) (by decide) (handleCommand_eq slot gen _ hl))

/-! ## The operations on one slot

Each is given the entry that stands in the slot, and says what stands there afterwards and what it touches. -/

section
variable {s : State} {i : SlotNo} {gen : Byte} {e : Entry}

theorem setFreeCount_touches (s : State) (i : SlotNo) {C : Chan → Prop} (n : Nat) : s.Touches i C (s.setFreeCount n) :=
  ⟨setFreeCount_same s n, rfl, fun _ => rfl, fun _ _ => rfl, fun _ _ => rfl, fun _ _ _ h => h⟩

theorem placeClaims_touches (s : State) (i j : SlotNo) (b : EntryBody) (m : CalMinute) :
    s.Touches j (· ∈ channelsOf b.channels) (s.placeClaims i b m) :=
  (setFreeCount_touches s j _).trans ((placeClaims_onChannels s i b m).touches j)

theorem renewClaims_touches (s : State) (i j : SlotNo) (b : EntryBody) (m : CalMinute) :
    s.Touches j (· ∈ channelsOf b.channels) (s.renewClaims i b m) := (renewClaims_onChannels s i b m).touches j

theorem takeClaims_touches (s : State) (i j : SlotNo) (b : EntryBody) :
    s.Touches j (· ∈ channelsOf b.channels) (s.takeClaims i b) :=
  (setFreeCount_touches s j _).trans ((takeClaims_onChannels s i b).touches j)

theorem removeClaims_touches (s : State) (i j : SlotNo) (b : EntryBody) :
    s.Touches j (· ∈ channelsOf b.channels) (s.removeClaims i b) :=
  (takeClaims_touches s i j b).trans ((retargetAll_onChannels _ _).touches j)

/-! ### Starts (R10) -/

theorem start_of_missed (hi : s.slot i = ⟨gen, some e⟩) (he : e.state = .armed) (hf : s.freeCount < setSize e.body.channels)
    (f : Option CalMinute) :
    s.start i f = (s.setEntry i { e with missed := min 255 (e.missed + 1) }).raiseEntry i .missed := by
  unfold State.start
  simp only [hi, he, hf, if_true]

theorem start_of_armed (hi : s.slot i = ⟨gen, some e⟩) (he : e.state = .armed) (hf : setSize e.body.channels ≤ s.freeCount)
    (f : Option CalMinute) :
    s.start i f = ((s.placeClaims i e.body s.now).setEntry i (e.started s.now f false)).raiseEntry i .started := by
  unfold State.start
  simp only [hi, he, Nat.not_lt.mpr hf, if_false]

theorem start_of_active {k : ClaimState} {m : Bool} (hi : s.slot i = ⟨gen, some e⟩) (he : e.state = .active k m)
    (hc : e.body.count ≠ some 0) (f : Option CalMinute) :
    s.start i f = ((s.renewClaims i e.body s.now).setEntry i (e.started s.now f m)).raiseEntry i .started := by
  unfold State.start
  simp only [hi, he, hc, if_false]

/-- An entry that cannot be offered a start does not start. -/
theorem start_of_not_offered (hi : s.slot i = ⟨gen, some e⟩) (ho : e.offered = false) (f : Option CalMinute) :
    s.start i f = s := by
  unfold State.start
  cases he : e.state with
  | active k m =>
    have hc : e.body.count = some 0 := by simpa [Entry.offered, he] using ho
    simp only [hi, he, hc, if_true]
  | armed => simp [Entry.offered, he] at ho
  | _ => simp only [hi, he]

theorem start_touches (hi : s.slot i = ⟨gen, some e⟩) (f : Option CalMinute) :
    s.Touches i (· ∈ channelsOf e.body.channels) (s.start i f) := by
  cases ho : e.offered with
  | false => rw [start_of_not_offered hi ho]; exact .refl s
  | true =>
    cases he : e.state with
    | armed =>
      by_cases hf : s.freeCount < setSize e.body.channels
      · rw [start_of_missed hi he hf]
        exact (setEntry_touches s i _).trans (raise_touches _ i _ _ _)
      · rw [start_of_armed hi he (Nat.not_lt.mp hf)]
        exact ((placeClaims_touches s i i _ _).trans (setEntry_touches _ i _)).trans (raise_touches _ i _ _ _)
    | active k m =>
      have hc : e.body.count ≠ some 0 := by simpa [Entry.offered, he] using ho
      rw [start_of_active hi he hc]
      exact ((renewClaims_touches s i i _ _).trans (setEntry_touches _ i _)).trans (raise_touches _ i _ _ _)
    | _ => simp [Entry.offered, he] at ho

/-- The slot of an entry that has started, with its pool records drawn and a claim on each channel of its set (R10, R64, R65). -/
theorem start_armed_slot (hi : s.slot i = ⟨gen, some e⟩) (he : e.state = .armed) (hf : setSize e.body.channels ≤ s.freeCount)
    (f : Option CalMinute) : (s.start i f).slot i = ⟨gen, some (e.started s.now f false)⟩ := by
  have h := placeClaims_onChannels s i e.body s.now
  rw [start_of_armed hi he hf, State.raiseEntry_slot, slot_setEntry_self, h.slot, setFreeCount_slot, hi]

theorem start_armed_freeCount (hi : s.slot i = ⟨gen, some e⟩) (he : e.state = .armed) (hf : setSize e.body.channels ≤ s.freeCount)
    (f : Option CalMinute) : (s.start i f).freeCount = s.freeCount - setSize e.body.channels := by
  rw [start_of_armed hi he hf, State.raiseEntry_freeCount, State.setEntry_freeCount, (placeClaims_onChannels s i _ _).freeCount]
  rfl

theorem start_armed_placed (hi : s.slot i = ⟨gen, some e⟩) (he : e.state = .armed) (hf : setSize e.body.channels ≤ s.freeCount)
    (f : Option CalMinute) {c : Chan} (hc : c ∈ channelsOf e.body.channels) :
    e.body.claim i gen s.now ∈ ((s.start i f).chan c).claims := by
  rw [start_of_armed hi he hf, State.raiseEntry_chan, setEntry_chan, placeClaims_claims, if_pos hc, hi]
  exact mem_withClaim_self rfl _

theorem start_armed_target (hi : s.slot i = ⟨gen, some e⟩) (he : e.state = .armed) (hf : setSize e.body.channels ≤ s.freeCount)
    (f : Option CalMinute) {c : Chan} (hc : c ∈ channelsOf e.body.channels) :
    ((s.start i f).chan c).target = ((s.start i f).chan c).wanted := by
  rw [start_of_armed hi he hf, State.raiseEntry_chan, setEntry_chan]
  exact retargetAll_wanted _ hc

theorem start_active_slot {k : ClaimState} {m : Bool} (hi : s.slot i = ⟨gen, some e⟩) (he : e.state = .active k m)
    (hc : e.body.count ≠ some 0) (f : Option CalMinute) : (s.start i f).slot i = ⟨gen, some (e.started s.now f m)⟩ := by
  rw [start_of_active hi he hc, State.raiseEntry_slot, slot_setEntry_self, (renewClaims_onChannels s i _ _).slot, hi]

theorem start_active_freeCount {k : ClaimState} {m : Bool} (hi : s.slot i = ⟨gen, some e⟩) (he : e.state = .active k m)
    (hc : e.body.count ≠ some 0) (f : Option CalMinute) : (s.start i f).freeCount = s.freeCount := by
  rw [start_of_active hi he hc, State.raiseEntry_freeCount, State.setEntry_freeCount, (renewClaims_onChannels s i _ _).freeCount]

theorem start_active_claims {k : ClaimState} {m : Bool} (hi : s.slot i = ⟨gen, some e⟩) (he : e.state = .active k m)
    (hn : e.body.count ≠ some 0) (f : Option CalMinute) {c : Chan} (hc : c ∈ channelsOf e.body.channels) :
    ((s.start i f).chan c).claims = renewed i s.now (s.chan c).claims := by
  rw [start_of_active hi he hn, State.raiseEntry_chan, setEntry_chan, renewClaims_claims, if_pos hc]

theorem start_active_target {k : ClaimState} {m : Bool} (hi : s.slot i = ⟨gen, some e⟩) (he : e.state = .active k m)
    (hn : e.body.count ≠ some 0) (f : Option CalMinute) {c : Chan} (hc : c ∈ channelsOf e.body.channels) :
    ((s.start i f).chan c).target = ((s.start i f).chan c).wanted := by
  rw [start_of_active hi he hn, State.raiseEntry_chan, setEntry_chan]
  exact retargetAll_wanted _ hc

/-! ### Ends (R9) -/

/-- What the end of its claim leaves of an ACTIVE entry (R9). -/
def Entry.afterEnd (e : Entry) (marked : Bool) (now : CalMinute) : EntryState :=
  if e.body.count = some 0 then .ended .spent now else if marked then .ended .expired now else .armed

/-- The state with an ACTIVE entry's claims gone, before the entry itself changes. -/
def State.unclaimed (s : State) (i : SlotNo) (b : EntryBody) : State := (s.removeClaims i b).raiseEntry i .claimEnded

theorem unclaimed_touches (s : State) (i : SlotNo) (b : EntryBody) :
    s.Touches i (· ∈ channelsOf b.channels) (s.unclaimed i b) := (removeClaims_touches s i i b).trans (raise_touches _ i _ _ _)

theorem unclaimed_slot (s : State) (i j : SlotNo) (b : EntryBody) : (s.unclaimed i b).slot j = s.slot j :=
  (removeClaims_onChannels s i b).slot j

theorem unclaimed_freeCount (s : State) (i : SlotNo) (b : EntryBody) :
    (s.unclaimed i b).freeCount = s.freeCount + setSize b.channels := (removeClaims_onChannels s i b).freeCount

theorem unclaimed_noClaims (s : State) (i : SlotNo) (b : EntryBody) : (s.unclaimed i b).NoClaims i b.channels :=
  removeClaims_noClaims s i b

theorem endClaim_of_active {k : ClaimState} {m : Bool} (hi : s.slot i = ⟨gen, some e⟩) (he : e.state = .active k m) :
    s.endClaim i =
      if e.body.count = some 0 then ((s.unclaimed i e.body).toEnded i e .spent).raiseEntry i .spent
      else if m then ((s.unclaimed i e.body).toEnded i e .expired).raiseEntry i .expired
      else (s.unclaimed i e.body).setEntry i { e with state := .armed } := by
  unfold State.endClaim
  simp only [hi, he]
  rfl

theorem endClaim_of_not_active (hi : s.slot i = ⟨gen, some e⟩) (he : e.state.isActive = false) : s.endClaim i = s := by
  unfold State.endClaim
  cases hs : e.state with
  | active k m => simp [hs, EntryState.isActive] at he
  | _ => simp only [hi, hs]

/-- What `endClaim` has of each field once the claims are gone: only the slot, the ENDED order and the change set still change. -/
theorem endClaim_frame {k : ClaimState} {m : Bool} (hi : s.slot i = ⟨gen, some e⟩) (he : e.state = .active k m) :
    (s.unclaimed i e.body).Touches i (fun _ => False) (s.endClaim i) ∧
      (s.endClaim i).freeCount = (s.unclaimed i e.body).freeCount := by
  rw [endClaim_of_active hi he]
  split
  · exact ⟨(toEnded_touches _ i e _).trans (raise_touches _ i _ _ _), rfl⟩
  · split
    · exact ⟨(toEnded_touches _ i e _).trans (raise_touches _ i _ _ _), rfl⟩
    · exact ⟨setEntry_touches _ i _, rfl⟩

theorem endClaim_touches (hi : s.slot i = ⟨gen, some e⟩) : s.Touches i (· ∈ channelsOf e.body.channels) (s.endClaim i) := by
  cases he : e.state with
  | active k m =>
    exact (unclaimed_touches s i e.body).trans ((endClaim_frame hi he).1.mono fun _ h => h.elim)
  | _ => rw [endClaim_of_not_active hi (by rw [he]; rfl)]; exact .refl s

theorem endClaim_slot {k : ClaimState} {m : Bool} (hi : s.slot i = ⟨gen, some e⟩) (he : e.state = .active k m) :
    (s.endClaim i).slot i = ⟨gen, some { e with state := e.afterEnd m s.now }⟩ := by
  have hnow := (unclaimed_touches s i e.body).now
  rw [endClaim_of_active hi he, Entry.afterEnd]
  split
  · rw [State.raiseEntry_slot, toEnded_slot, unclaimed_slot, hi, hnow]
  · split
    · rw [State.raiseEntry_slot, toEnded_slot, unclaimed_slot, hi, hnow]
    · rw [slot_setEntry_self, unclaimed_slot, hi]

theorem endClaim_freeCount {k : ClaimState} {m : Bool} (hi : s.slot i = ⟨gen, some e⟩) (he : e.state = .active k m) :
    (s.endClaim i).freeCount = s.freeCount + setSize e.body.channels := by
  rw [(endClaim_frame hi he).2, unclaimed_freeCount]

theorem endClaim_noClaims {k : ClaimState} {m : Bool} (hi : s.slot i = ⟨gen, some e⟩) (he : e.state = .active k m) :
    (s.endClaim i).NoClaims i e.body.channels := by
  intro c hc x hx
  rw [(endClaim_frame hi he).1.others c id] at hx
  exact unclaimed_noClaims s i e.body c hc x hx

/-! ### Retirement (R20) -/

theorem stripClaims_of_active (ha : e.state.isActive = true) :
    s.stripClaims i e = (s.takeClaims i e.body).raiseEntry i .claimEnded := by
  cases he : e.state with
  | active k m => unfold State.stripClaims; rw [he]
  | _ => simp [he, EntryState.isActive] at ha

theorem stripClaims_of_not_active (ha : e.state.isActive = false) : s.stripClaims i e = s := by
  cases he : e.state with
  | active k m => simp [he, EntryState.isActive] at ha
  | _ => unfold State.stripClaims; rw [he]

theorem stripClaims_touches (s : State) (i : SlotNo) (e : Entry) :
    s.Touches i (· ∈ channelsOf e.body.channels) (s.stripClaims i e) := by
  cases ha : e.state.isActive with
  | true => rw [stripClaims_of_active ha]; exact (takeClaims_touches s i i _).trans (raise_touches _ i _ _ _)
  | false => rw [stripClaims_of_not_active ha]; exact .refl s

theorem stripClaims_table (s : State) (i : SlotNo) (e : Entry) : (s.stripClaims i e).table = s.table := by
  cases ha : e.state.isActive with
  | true => rw [stripClaims_of_active ha]; exact (takeClaims_onChannels s i e.body).table
  | false => rw [stripClaims_of_not_active ha]

theorem stripClaims_freeCount (s : State) (i : SlotNo) (e : Entry) : (s.stripClaims i e).freeCount =
    if e.state.isActive then s.freeCount + setSize e.body.channels else s.freeCount := by
  cases ha : e.state.isActive with
  | true => rw [stripClaims_of_active ha]; exact (takeClaims_onChannels s i e.body).freeCount
  | false => rw [stripClaims_of_not_active ha]; rfl

theorem retireOpen_of_entry (hi : s.slot i = ⟨gen, some e⟩) :
    s.retireOpen i = ((s.stripClaims i e).clearSlot i).raiseEntry i .retired := by
  unfold State.retireOpen
  simp only [hi]

theorem retireOpen_of_free (hi : (s.slot i).entry = none) : s.retireOpen i = s := by
  unfold State.retireOpen
  simp only [hi]

theorem retireOpen_touches (hi : s.slot i = ⟨gen, some e⟩) :
    s.Touches i (· ∈ channelsOf e.body.channels) (s.retireOpen i) := by
  rw [retireOpen_of_entry hi]
  exact ((stripClaims_touches s i e).trans (clearSlot_touches _ i)).trans (raise_touches _ i _ _ _)

theorem retireOpen_slot_self (hi : s.slot i = ⟨gen, some e⟩) : (s.retireOpen i).slot i = ⟨gen + 1, none⟩ := by
  have h : (s.stripClaims i e).slot i = s.slot i := by simp only [State.slot, stripClaims_table]
  rw [retireOpen_of_entry hi, State.raiseEntry_slot, clearSlot_slot, h, hi]

theorem retireOpen_endedOrder (hi : s.slot i = ⟨gen, some e⟩) :
    (s.retireOpen i).table.endedOrder = s.table.endedOrder.filter (· != i) := by
  rw [retireOpen_of_entry hi, State.raiseEntry_table, clearSlot_endedOrder, stripClaims_table]

theorem retire_of_entry (hi : s.slot i = ⟨gen, some e⟩) :
    s.retire i = (s.retireOpen i).retargetAll (channelsOf e.body.channels) := by
  unfold State.retire
  simp only [hi]

theorem retire_touches (hi : s.slot i = ⟨gen, some e⟩) : s.Touches i (· ∈ channelsOf e.body.channels) (s.retire i) := by
  rw [retire_of_entry hi]
  exact (retireOpen_touches hi).trans ((retargetAll_onChannels _ _).touches i)

theorem retire_slot_self (hi : s.slot i = ⟨gen, some e⟩) : (s.retire i).slot i = ⟨gen + 1, none⟩ := by
  rw [retire_of_entry hi, (retargetAll_onChannels _ _).slot, retireOpen_slot_self hi]

theorem retire_endedOrder (hi : s.slot i = ⟨gen, some e⟩) :
    (s.retire i).table.endedOrder = s.table.endedOrder.filter (· != i) := by
  rw [retire_of_entry hi, (retargetAll_onChannels _ _).table, retireOpen_endedOrder hi]

theorem retire_freeCount (hi : s.slot i = ⟨gen, some e⟩) : (s.retire i).freeCount =
    if e.state.isActive then s.freeCount + setSize e.body.channels else s.freeCount := by
  rw [retire_of_entry hi, (retargetAll_onChannels _ _).freeCount, retireOpen_of_entry hi, State.raiseEntry_freeCount,
    clearSlot_freeCount, stripClaims_freeCount]

theorem retire_noClaims (hi : s.slot i = ⟨gen, some e⟩) (ha : e.state.isActive = true) :
    (s.retire i).NoClaims i e.body.channels := by
  intro c hc x hx
  rw [retire_of_entry hi, retargetAll_claims, retireOpen_of_entry hi, State.raiseEntry_chan, clearSlot_chan,
    stripClaims_of_active ha, State.raiseEntry_chan, takeClaims_claims, if_pos hc] at hx
  exact isOf_of_mem_withoutClaims hx

end

/-- The code of a slot's state is that of the entry that stands there. -/
theorem stateCode_of_slot {s : State} {i : SlotNo} {gen : Byte} {e : Entry} (hi : s.slot i = ⟨gen, some e⟩) :
    s.stateCode i = e.state.code := by
  unfold State.stateCode
  simp only [hi]

end Sys2Proof.Machine
end

/-! The entry commands READ_ENTRY, FIND_ENTRIES, MODIFY_ENTRY, SUSPEND_ENTRY, RESUME_ENTRY, RETIRE_ENTRY, START_ENTRY, END_ENTRY and
CLEAR_ALL. -/

section
namespace Sys2Proof.Machine

section
variable {s t : State} {cmd tag slot gen : Byte} {i : SlotNo} {e : Entry} {go : SlotNo → Entry → Answer}

/-- A handle command that its entry allows. -/
theorem submit_handle_replied {payload : List Byte} (h : s.Ready) (hl : s.loadRunning = false) (hs : readSlotNo slot = some i)
    (hi : s.slot i = ⟨gen, some e⟩) (hc : cmd ≠ 0x69) (ha : cmd ≠ 0x6A)
    (hr : runCommand cmd [slot, gen] s = handleCommand [slot, gen] s go) (hg : go i e = .ok (t, payload)) :
    s.submit cmd tag [slot, gen] = t.replied cmd tag payload :=
  submit_replied h (by simp [Config.maxParams]) hc ha ((hr.trans (handleCommand_of_entry hl hs hi)).trans hg)

/-- A handle command that its entry's state refuses. -/
theorem submit_handle_refused {r : Result} (h : s.Ready) (hl : s.loadRunning = false) (hs : readSlotNo slot = some i)
    (hi : s.slot i = ⟨gen, some e⟩) (hc : cmd ≠ 0x69)
    (hr : runCommand cmd [slot, gen] s = handleCommand [slot, gen] s go) (hg : go i e = .error r) :
    s.submit cmd tag [slot, gen] = s.refusedWith cmd tag r :=
  submit_refused h (by simp [Config.maxParams]) hc ((hr.trans (handleCommand_of_entry hl hs hi)).trans hg)

end

/-! ## READ_ENTRY and FIND_ENTRIES (R16, R23) -/

theorem allSlots_drop {k : Nat} (hk : k < 128) : allSlots.drop k = ⟨k, hk⟩ :: allSlots.drop (k + 1) := by
  rw [List.drop_eq_getElem_cons (by simpa [allSlots] using hk)]
  simp [allSlots]

theorem allSlots_drop_of_le {k : Nat} (hk : 128 ≤ k) : allSlots.drop k = [] :=
  List.drop_eq_nil_of_le (by simpa [allSlots] using hk)

/-- The cursor after a scan from slot `k` that looks for `n` matches, `hits` being all there are. -/
def nextCursor (k n : Nat) (hits : List SlotNo) : Nat :=
  if n = 0 then k else if n ≤ hits.length then (hits.getD (n - 1) 0).val + 1 else 128

/-- The scan from a slot upward finds the first `n` matches, and ends behind the last of them or at the end of the table (R23). -/
theorem scanSlots_drop (found : SlotNo → Bool) (k n : Nat) (hk : k ≤ 128) :
    scanSlots found (allSlots.drop k) n =
      (((allSlots.drop k).filter found).take n, nextCursor k n ((allSlots.drop k).filter found)) := by
  obtain rfl | hlt := Nat.eq_or_lt_of_le hk
  · rw [allSlots_drop_of_le (Nat.le_refl _)]
    cases n <;> simp [scanSlots, nextCursor]
  · rw [allSlots_drop hlt]
    cases n with
    | zero => simp [scanSlots, nextCursor]
    | succ n =>
      unfold scanSlots
      cases hf : found ⟨k, hlt⟩ with
      | true =>
        rw [if_pos rfl, scanSlots_drop found (k + 1) n hlt, List.filter_cons_of_pos hf]
        cases n <;> simp [nextCursor]
      | false =>
        rw [if_neg Bool.false_ne_true, scanSlots_drop found (k + 1) (n + 1) hlt,
          List.filter_cons_of_neg (by simp [hf])]
        simp [nextCursor]
termination_by 128 - k

theorem filterOk_cursor {channel states origin cursor : Byte} (h : filterOk channel states origin cursor = true) :
    cursor.toNat ≤ 127 := by
  simp only [filterOk, Bool.and_eq_true, decide_eq_true_eq] at h
  exact h.2

/-- FIND_ENTRIES replies what its scan finds. -/
theorem cmdFindEntries_of_scan {s : State} {channel states origin cursor : Byte} {hits : List SlotNo} {next : Nat}
    (hf : filterOk channel states origin cursor = true)
    (hscan : scanSlots (fun i => (s.slot i).entry.any fun e => e.matchesFilter channel states origin)
      (allSlots.drop cursor.toNat) 32 = (hits, next)) :
    cmdFindEntries [channel, states, origin, cursor] s =
      .ok (s, [byteOf hits.length] ++ (hits.flatMap fun i => s.handle i ++ [s.stateCode i]) ++ [byteOf next]) := by
  have hany {found : SlotNo → Bool}
      (h : ∀ i, found i = (s.slot i).entry.any fun e => e.matchesFilter channel states origin) :
      scanSlots found (allSlots.drop cursor.toNat) 32 = (hits, next) := by rw [funext h, hscan]
  unfold cmdFindEntries
  simp only [hf, check_true]
  rw [hany fun i => by cases (s.slot i).entry <;> rfl]

/-- Settles O20: the scan's matches are those of the filter, in slot order. -/
theorem readAndFindEntries : Obligations.ReadAndFindEntries := by
  constructor
  · intro s tag slot gen i e h hs hi
    refine congrArg Host.Outcome.next (submit_replied h (by simp [Config.maxParams]) (by decide) (by decide) ?_)
    show s.withHandle slot gen (fun i e => .ok (s, s.handle i ++ writeRecord e)) = _
    rw [withHandle_of_entry hs hi, State.handle, hi, byteOf_of_readSlotNo hs]
  · intro s tag channel states origin cursor h hf
    exact congrArg Host.Outcome.next (submit_replied h (by simp [Config.maxParams]) (by decide) (by decide)
      (cmdFindEntries_of_scan hf (scanSlots_drop _ _ _ (Nat.le_succ_of_le (filterOk_cursor hf)))))

/-! ## MODIFY_ENTRY (R17) -/

/-- Settles O22: the command past the handle's check is the rule's own sequence. -/
theorem modifyEntryReplacesBody : Obligations.ModifyEntryReplacesBody := by
  intro s tag slot gen body i e b h hl hb hs hi hr
  have hlen : (slot :: gen :: body).length ≤ Config.maxParams := by
    have := length_of_bodyLengthOk hb
    simp only [List.length_cons, Config.maxParams]; omega
  have hrun : runCommand 0x12 (slot :: gen :: body) s = _ :=
    (cmdModifyEntry_eq slot gen hl hb).trans (withHandle_of_entry hs hi)
  simp only [hr] at hrun
  refine ⟨fun he => ?_, fun he hj => ?_, fun he hj => ?_⟩
  · refine congrArg Host.Outcome.next (submit_refused h hlen (by decide) (hrun.trans ?_))
    simp [he]
  · refine congrArg Host.Outcome.next (submit_refused h hlen (by decide) (hrun.trans ?_))
    simp [he, hj]
  · refine congrArg Host.Outcome.next (submit_replied h hlen (by decide) (by decide) (hrun.trans ?_))
    rw [he, bne_iff_ne.mpr hj]
    rfl

/-! ## SUSPEND_ENTRY and RESUME_ENTRY (R18, R19) -/

/-- The catch-up check passes over an entry that is not ARMED. -/
theorem catchUp_of_not_armed {s : State} {i : SlotNo} {gen : Byte} {e : Entry} (hi : s.slot i = ⟨gen, some e⟩)
    (he : e.state ≠ .armed) : s.catchUp i = s := by
  unfold State.catchUp
  simp [hi, he]

/-- Settles O23: each state of the entry takes its branch, and the code replied is that of the state stored. -/
theorem suspendAndResumeEntry : Obligations.SuspendAndResumeEntry := by
  intro s tag slot gen i e h hl hs hi
  have hcode {t : State} {g : Byte} {e' : Entry} (r : EntryReason) (ht : t.slot i = ⟨g, some e'⟩) :
      (t.raiseEntry i r).stateCode i = e'.state.code := stateCode_of_slot ht
  have hset (e' : Entry) : (s.setEntry i e').slot i = ⟨gen, some e'⟩ := by rw [slot_setEntry_self, hi]
  have hend (r : EndReason) : (s.toEnded i e r).slot i = ⟨gen, some { e with state := .ended r s.now }⟩ := by
    rw [toEnded_slot, hi]
  refine ⟨fun he => ?_, fun he => ?_, fun he => ?_, fun he => ?_, fun he hj => ?_, fun he hj => ?_, fun he hj => ?_⟩
  · refine congrArg Host.Outcome.next (submit_handle_refused h hl hs hi (by decide) rfl ?_)
    obtain he | he := he <;> simp [he]
  · refine congrArg Host.Outcome.next (submit_handle_replied h hl hs hi (by decide) (by decide) rfl ?_)
    have ha : e.state.isActive = false := by obtain he | he := he <;> rw [he] <;> rfl
    have hn : (!e.state.isEnded && e.state != .suspended) = true := by obtain he | he := he <;> simp [he, EntryState.isEnded]
    simp only [hn, check_true, ha, Bool.false_and, dropClaims_of_not_active s i ha]
    simp [hcode _ (hset _), EntryState.code]
  · obtain ⟨k, m, hst⟩ := exists_of_isActive he
    have hn : (!e.state.isEnded && e.state != .suspended) = true := by simp [hst, EntryState.isEnded]
    have hu : (s.unclaimed i e.body).slot i = ⟨gen, some e⟩ := by rw [unclaimed_slot, hi]
    show Host.Outcome.next _ = Host.Outcome.next (if e.body.count = some 0 then _ else _)
    rw [← apply_ite (fun x => x)]
    refine congrArg Host.Outcome.next ?_
    split
    · rename_i hc
      refine submit_handle_replied h hl hs hi (by decide) (by decide) rfl ?_
      simp only [hn, check_true, he, hc, dropClaims_of_active s i he]
      rw [← State.unclaimed]
      have hslot := (toEnded_slot (s.unclaimed i e.body) i e .spent).trans (by rw [hu])
      simp [hcode (t := ((s.unclaimed i e.body).toEnded i e .spent).raiseEntry i .spent) _ hslot, EntryState.code]
    · rename_i hc
      refine submit_handle_replied h hl hs hi (by decide) (by decide) rfl ?_
      simp only [hn, check_true, he, dropClaims_of_active s i he]
      rw [← State.unclaimed]
      simp [hc, hcode _ ((slot_setEntry_self _ i _).trans (by rw [hu])), EntryState.code]
  · refine congrArg Host.Outcome.next (submit_handle_refused h hl hs hi (by decide) rfl ?_)
    rw [beq_eq_false_iff_ne.mpr he, check_false]
  · refine congrArg Host.Outcome.next (submit_handle_replied h hl hs hi (by decide) (by decide) rfl ?_)
    have hslot := hset { e with state := .waiting }
    have hcatch : ((s.setEntry i { e with state := .waiting }).raiseEntry i .modified).catchUp i = _ :=
      catchUp_of_not_armed hslot (by simp)
    simp [he, hj, hcatch, hcode _ hslot, EntryState.code]
  · refine congrArg Host.Outcome.next (submit_handle_replied h hl hs hi (by decide) (by decide) rfl ?_)
    simp [he, hj]
  · refine congrArg Host.Outcome.next (submit_handle_replied h hl hs hi (by decide) (by decide) rfl ?_)
    have hslot := hend .expired
    have hcatch : (((s.toEnded i e .expired).raiseEntry i .expired).raiseEntry i .modified).catchUp i = _ :=
      catchUp_of_not_armed hslot (by simp)
    simp [he, hj, hcatch, hcode (t := (s.toEnded i e .expired).raiseEntry i .expired) _ hslot, EntryState.code]

/-! ## RETIRE_ENTRY (R20) -/

/-- Settles O24: the frame of a retirement, and its slot, pool and claims. -/
theorem retireEntryFreesSlot : Obligations.RetireEntryFreesSlot := by
  intro s tag slot gen i e h hl hs hi
  have ht := retire_touches hi
  refine ⟨s.retire i, congrArg Host.Outcome.next (submit_handle_replied h hl hs hi (by decide) (by decide) rfl rfl),
    ht.same, retire_slot_self hi, ht.slots, ?_, ht.calendar, ht.others, retire_freeCount hi, retire_noClaims hi⟩
  rw [retire_endedOrder hi]
  simp

/-! ## START_ENTRY (R21) -/

/-- Settles O25: the three ways of a start, and the entry that none is offered to. -/
theorem startEntryPlacesClaims : Obligations.StartEntryPlacesClaims := by
  intro s tag slot gen i e h hl hs hi
  have ht := start_touches hi none
  have hreply {payload : List Byte} (ho : e.offered = true)
      (hp : [if e.state == .armed && decide (s.freeCount < setSize e.body.channels) then (1 : Byte) else 0] = payload) :
      exec (.startEntry tag [slot, gen]) s = .next ((s.start i none).replied 0x16 tag payload) :=
    congrArg Host.Outcome.next (submit_handle_replied h hl hs hi (by decide) (by decide) rfl
      (by rw [ho, check_true, ← hp]))
  refine ⟨fun he hf => ⟨s.start i none, hreply ?_ ?_, ht.same, start_armed_slot hi he hf none, ht.slots,
      start_armed_freeCount hi he hf none, ht.calendar, ht.others, fun c hc =>
        ⟨start_armed_placed hi he hf none hc, start_armed_target hi he hf none hc⟩⟩, fun he hf => ?_, fun k m he hn =>
    ⟨s.start i none, hreply ?_ ?_, ht.same, start_active_slot hi he hn none, ht.slots, start_active_freeCount hi he hn none,
      ht.calendar, ht.others, fun c hc x hx => ⟨?_, start_active_target hi he hn none hc⟩⟩, fun ho => ?_⟩
  · simp [Entry.offered, he]
  · simp [Nat.not_lt.mpr hf]
  · rw [hreply (payload := [1]) (by simp [Entry.offered, he]) (by simp [he, hf]), start_of_missed hi he hf]
  · simpa [Entry.offered, he] using hn
  · simp [he]
  · rw [start_active_claims hi he hn none hc, renewed_of_single hx]
  · exact congrArg Host.Outcome.next (submit_handle_refused h hl hs hi (by decide) rfl (by rw [ho, check_false]))

/-! ## END_ENTRY (R22) -/

/-- Settles O26: the end of a claim, with its frame. -/
theorem endEntryRemovesClaims : Obligations.EndEntryRemovesClaims := by
  intro s tag slot gen i e h hl hs hi
  have ht := endClaim_touches hi
  refine ⟨fun k m he => ⟨s.endClaim i, ?_, ht.same, endClaim_slot hi he, ht.slots, endClaim_freeCount hi he, ht.calendar,
    ht.others, endClaim_noClaims hi he⟩, fun ha => ?_⟩
  · refine congrArg Host.Outcome.next (submit_handle_replied h hl hs hi (by decide) (by decide) rfl ?_)
    have ha : e.state.isActive = true := by rw [he]; rfl
    rw [ha, check_true]
    show Except.ok (s.endClaim i, [(s.endClaim i).stateCode i]) = _
    rw [stateCode_of_slot (endClaim_slot hi he)]
    rfl
  · exact congrArg Host.Outcome.next (submit_handle_refused h hl hs hi (by decide) rfl (by rw [ha, check_false]))

/-! ## CLEAR_ALL (R24, R59, R78) -/

/-- A slot once its entry, if it has one, is retired (R1, R20). -/
def Slot.retired (x : Slot) : Slot := ⟨if x.entry.isSome then x.generation + 1 else x.generation, none⟩

theorem slot_of_free {s : State} {i : SlotNo} (he : (s.slot i).entry = none) : s.slot i = ⟨(s.slot i).generation, none⟩ := by
  rw [← he]

theorem retireOpen_slot (s : State) (i j : SlotNo) :
    (s.retireOpen i).slot j = if i = j then (s.slot i).retired else s.slot j := by
  cases he : (s.slot i).entry with
  | none =>
    rw [retireOpen_of_free he]
    split
    · rename_i hj; subst hj; simp only [Slot.retired, he]; exact slot_of_free he
    · rfl
  | some e =>
    have hi := slot_of_entry he
    split
    · rename_i hj; subst hj; rw [retireOpen_slot_self hi]; simp [Slot.retired, he]
    · rename_i hj; exact (retireOpen_touches hi).slots j (Ne.symm hj)

/-- A pass over slots whose every doing rewrites its own slot alone. -/
theorem forEach_slots {l : List SlotNo} (hl : l.Nodup) {f : State → SlotNo → State} {g : Slot → Slot}
    (hf : ∀ (s : State) (i j : SlotNo), (f s i).slot j = if i = j then g (s.slot i) else s.slot j) (s : State) (j : SlotNo) :
    (s.forEach l f).slot j = if j ∈ l then g (s.slot j) else s.slot j := by
  induction l generalizing s with
  | nil => simp [forEach_nil]
  | cons i l ih =>
    obtain ⟨hi, hl⟩ := List.nodup_cons.mp hl
    rw [forEach_cons, ih hl, hf]
    by_cases hj : i = j
    · subst hj; simp [hi]
    · simp [hj, Ne.symm hj]

/-- After a pass of retirements the ENDED order lists no slot that had an entry. -/
theorem forEach_retireOpen_endedOrder {l : List SlotNo} (hl : l.Nodup) (s : State) {j : SlotNo}
    (h : j ∈ (s.forEach l State.retireOpen).table.endedOrder) :
    j ∈ s.table.endedOrder ∧ (j ∈ l → (s.slot j).entry = none) := by
  induction l generalizing s with
  | nil => exact ⟨h, by simp⟩
  | cons i l ih =>
    obtain ⟨hi, hl⟩ := List.nodup_cons.mp hl
    obtain ⟨hm, hj⟩ := ih hl _ h
    rw [retireOpen_slot] at hj
    cases he : (s.slot i).entry with
    | none =>
      rw [retireOpen_of_free he] at hm
      refine ⟨hm, fun hji => ?_⟩
      obtain rfl | hji := List.mem_cons.mp hji
      · exact he
      · have := hj hji
        rwa [if_neg (fun e : i = j => hi (e ▸ hji))] at this
    | some e =>
      rw [retireOpen_endedOrder (slot_of_entry he), List.mem_filter] at hm
      have hne : j ≠ i := by simpa using hm.2
      refine ⟨hm.1, fun hji => ?_⟩
      have := hj ((List.mem_cons.mp hji).resolve_left hne)
      rwa [if_neg (Ne.symm hne)] at this

theorem allSlots_nodup : allSlots.Nodup := List.nodup_finRange 128

theorem allChannels_nodup : allChannels.Nodup := List.nodup_finRange 16

theorem filter_isHold_withoutOverride (l : List Claim) :
    (withoutOverride l).filter Claim.isHold = l.filter Claim.isHold := by
  rw [withoutOverride, List.filter_filter]
  refine List.filter_congr fun x _ => ?_
  cases h : x.isHold
  · rfl
  · simp [isOverride_of_isHold h]

theorem filter_isHold_withoutClaims (i : SlotNo) (l : List Claim) :
    (withoutClaims i l).filter Claim.isHold = l.filter Claim.isHold := by
  have hoff : (l.filter fun x => !x.isOf i).filter Claim.isHold = l.filter Claim.isHold := by
    rw [List.filter_filter]
    refine List.filter_congr fun x _ => ?_
    cases h : x.isHold
    · rfl
    · simp [isOf_of_isHold i h]
  unfold withoutClaims withoutUntilNext
  split
  · split
    · rw [filter_isHold_withoutOverride, hoff]
    · exact hoff
  · rfl

theorem retireOpen_holds (s : State) (i : SlotNo) (c : Chan) :
    ((s.retireOpen i).chan c).claims.filter Claim.isHold = (s.chan c).claims.filter Claim.isHold := by
  cases he : (s.slot i).entry with
  | none => rw [retireOpen_of_free he]
  | some e =>
    rw [retireOpen_of_entry (slot_of_entry he), State.raiseEntry_chan, clearSlot_chan]
    cases ha : e.state.isActive with
    | false => rw [stripClaims_of_not_active ha]
    | true =>
      rw [stripClaims_of_active ha, State.raiseEntry_chan, takeClaims_claims]
      split
      · exact filter_isHold_withoutClaims i _
      · rfl

/-- The state of CLEAR_ALL once every entry is retired and every exception removed, before the overrides. -/
def State.emptied (s : State) : State := ((s.forEach allSlots State.retireOpen).keepRecords fun _ => false).recomputeToday

theorem clearAll_eq (s : State) :
    s.clearAll = (s.emptied.forEach allChannels State.dropOverride).retargetAll allChannels := rfl

theorem keepRecords_table (s : State) (keep : ExceptionRecord → Bool) : (s.keepRecords keep).table = s.table :=
  (keepRecords_schedule s keep).table

theorem recomputeToday_schedule (s : State) : s.SameSchedule s.recomputeToday := setCalendar_schedule s _

theorem emptied_table (s : State) : s.emptied.table = (s.forEach allSlots State.retireOpen).table := by
  rw [State.emptied, (recomputeToday_schedule _).table, keepRecords_table]

/-- From the emptying to the end of CLEAR_ALL only the overrides and the targets change. -/
theorem clearAll_onChannels (s : State) : s.emptied.OnChannels (fun _ => True) s.clearAll :=
  (State.OnChannels.forEach (fun _ _ => trivial) dropOverride_onChannels _).trans
    ((retargetAll_onChannels _ _).mono fun _ _ => trivial)

theorem clearAll_claims (s : State) (c : Chan) : (s.clearAll.chan c).claims = withoutOverride (s.emptied.chan c).claims := by
  rw [clearAll_eq, retargetAll_claims, forEach_claims allChannels_nodup (g := withoutOverride) dropOverride_claims,
    if_pos (mem_allChannels c)]

theorem emptied_holds (s : State) (c : Chan) :
    (s.emptied.chan c).claims.filter Claim.isHold = (s.chan c).claims.filter Claim.isHold := by
  have hkeep : (s.emptied.chan c).claims = ((s.forEach allSlots State.retireOpen).chan c).claims := by
    rw [State.emptied, (recomputeToday_schedule _).claims, (keepRecords_schedule _ _).claims]
  rw [hkeep]
  generalize allSlots = l
  exact forEach_keeps (P := fun t => (t.chan c).claims.filter Claim.isHold = (s.chan c).claims.filter Claim.isHold)
    (fun t i _ ht => (retireOpen_holds t i c).trans ht) rfl

theorem keepRecords_records (s : State) (keep : ExceptionRecord → Bool) :
    (s.keepRecords keep).calendar.records = s.calendar.records.filter keep := by
  unfold State.keepRecords
  split
  · rename_i h
    exact (List.filter_eq_self.mpr (List.all_eq_true.mp h)).symm
  · rfl

theorem emptied_calendar (s : State) : s.emptied.calendar = ⟨[], .normal⟩ := by
  have hr : ((s.forEach allSlots State.retireOpen).keepRecords fun _ => false).calendar.records = [] := by
    rw [keepRecords_records, List.filter_eq_nil_iff]; simp
  unfold State.emptied State.recomputeToday
  rw [State.setCalendar_calendar, hr]
  simp [hr, lookupClass, lookupRecord]

/-- Settles O27: the retirements by slots, the calendar, and the overrides by channels. -/
theorem clearAllEmpties : Obligations.ClearAllEmpties := by
  intro s tag h hl
  have hon := clearAll_onChannels s
  refine ⟨s.clearAll, congrArg Host.Outcome.next (submit_replied h (by simp) (by decide) (by decide) ?_), clearAll_same s,
    fun i => ?_, fun hord => ?_, ?_, fun c => ?_, fun c => ?_, (targetsOk_clearAll s)⟩
  · show check (!s.loadRunning) .busy _ = _
    rw [hl]
    rfl
  · have hslot : s.emptied.slot i = (s.forEach allSlots State.retireOpen).slot i := by simp only [State.slot, emptied_table]
    rw [hon.slot, hslot, forEach_slots allSlots_nodup (g := Slot.retired) retireOpen_slot, if_pos (mem_allSlots i)]
    rfl
  · rw [hon.table, emptied_table]
    refine List.eq_nil_iff_forall_not_mem.mpr fun j hj => ?_
    obtain ⟨hm, hn⟩ := forEach_retireOpen_endedOrder allSlots_nodup s hj
    have := hord j hm
    simp [hn (mem_allSlots j)] at this
  · rw [hon.calendar, emptied_calendar]
  · rw [clearAll_claims]; simp [withoutOverride]
  · rw [clearAll_claims, filter_isHold_withoutOverride, emptied_holds]

end Sys2Proof.Machine
end

/-! An entry body written in its layout reads back as itself (R3, R191): one round trip per field. -/

section
namespace Sys2Proof.Machine

/-! ## Numbers, dates and times in bytes -/

theorem toNat_byteOf {n : Nat} (h : n < 256) : (byteOf n).toNat = n := by
  rw [byteOf, BitVec.toNat_ofNat, Nat.mod_eq_of_lt h]

theorem natOf_twoBytes {n : Nat} (h : n ≤ 65535) : natOf (byteOf (n / 256)) (byteOf n) = n := by
  rw [natOf, toNat_byteOf (by omega), byteOf, BitVec.toNat_ofNat]
  omega

theorem readSet_writeSet (w : Word) : readSet (byteOf (w.toNat / 256)) (byteOf w.toNat) = w := by
  refine BitVec.eq_of_toNat_eq ?_
  rw [readSet, BitVec.toNat_append, ← Nat.shiftLeft_add_eq_or_of_lt (byteOf w.toNat).isLt, Nat.shiftLeft_eq]
  exact natOf_twoBytes (by omega)

theorem readTod_writeTod {t : TimeOfDay} (h : t.isReal = true) : readTod (byteOf t.hour) (byteOf t.minute) = some t := by
  have hr : t.hour ≤ 23 ∧ t.minute ≤ 59 := by simpa [TimeOfDay.isReal] using h
  unfold readTod
  rw [toNat_byteOf (by omega), toNat_byteOf (by omega)]
  exact if_pos h

theorem monthLength_le (y m : Nat) : monthLength y m ≤ 31 := by
  unfold monthLength
  split_ifs <;> omega

theorem readDate_writeDate {d : Date} (h : d.isReal = true) :
    readDate (byteOf (d.year - 2000)) (byteOf d.month) (byteOf d.day) = some d := by
  have hr := h
  have hm := monthLength_le d.year d.month
  simp only [Date.isReal, Bool.and_eq_true, decide_eq_true_eq] at hr
  have hy : 2000 + (d.year - 2000) = d.year := by omega
  unfold readDate
  rw [toNat_byteOf (by omega), toNat_byteOf (by omega), toNat_byteOf (by omega), hy]
  exact if_pos h

/-! ## The optional parts -/

theorem takeDate_orAbsent {d : Option Date} (h : ∀ x, d = some x → x.isReal = true) (rest : List Byte) :
    takeDate d.isSome (orAbsent 0 writeDate d ++ rest) = some (d, rest) := by
  cases d with
  | none => rfl
  | some x => simp [takeDate, orAbsent, writeDate, readDate_writeDate (h x rfl)]

theorem takeTod_orAbsent {t : Option TimeOfDay} (h : ∀ x, t = some x → x.isReal = true) (rest : List Byte) :
    takeTod t.isSome (orAbsent 0 writeTod t ++ rest) = some (t, rest) := by
  cases t with
  | none => rfl
  | some x => simp [takeTod, orAbsent, writeTod, readTod_writeTod (h x rfl)]

theorem takeCount_orAbsent {n : Option Nat} (h : ∀ x, n = some x → 1 ≤ x ∧ x ≤ 65535) (rest : List Byte) :
    takeCount n.isSome (orAbsent 0 twoBytes n ++ rest) = some (n, rest) := by
  cases n with
  | none => rfl
  | some x =>
    obtain ⟨hpos, hmax⟩ := h x rfl
    simp [takeCount, orAbsent, twoBytes, natOf_twoBytes hmax, Nat.ne_of_gt hpos]

theorem length_orAbsent {α : Type} {write : α → List Byte} {k : Nat} (hk : ∀ a, (write a).length = k) (x : Option α) :
    (orAbsent 0 write x).length = if x.isSome then k else 0 := by
  cases x with
  | none => rfl
  | some a => exact hk a

/-! ## The trigger and the end -/

theorem readAny_writeAny {lo hi : Nat} {x : Option Nat} (hhi : hi < 255) (h : ∀ n, x = some n → lo ≤ n ∧ n ≤ hi) :
    readAny lo hi (writeAny x) = some x := by
  cases x with
  | none => rfl
  | some n =>
    obtain ⟨hl, hh⟩ := h n rfl
    have hn : (byteOf n).toNat = n := toNat_byteOf (by omega)
    have hne : byteOf n ≠ 0xFF := fun he => by
      have : n = 255 := by rw [← hn, he]; rfl
      omega
    rw [readAny, writeAny, beq_eq_false_iff_ne.mpr hne]
    simp [hn, hl, hh]

/-- A trigger is written in five bytes, from which it reads back. -/
theorem readTrigger_writeTrigger {t : StartTrigger} (h : t.InRange) :
    ∃ code minute hour day month, writeTrigger t = [code, minute, hour, day, month] ∧
      readTrigger code minute hour day month = some t := by
  cases t with
  | atTime minute hour day month =>
    obtain ⟨hm, hh, hd, hmo, hok⟩ := h
    refine ⟨_, _, _, _, _, rfl, ?_⟩
    simp only [readTrigger, beq_self_eq_true, if_true, readAny_writeAny (by omega) fun n hn => ⟨Nat.zero_le n, hh n hn⟩,
      readAny_writeAny (by omega) hd, readAny_writeAny (by omega) hmo, Option.bind_eq_bind, Option.bind_some,
      toNat_byteOf (n := minute) (by omega)]
    simp [hm, hok]
  | atDusk => exact ⟨_, _, _, _, _, rfl, rfl⟩
  | atDawn => exact ⟨_, _, _, _, _, rfl, rfl⟩

/-- An end is written in three bytes, from which it reads back. -/
theorem readEnd_writeEnd {e : EntryEnd} (h : e.InRange) :
    ∃ code hi lo, writeEnd e = [code, hi, lo] ∧ readEnd code hi lo = some e := by
  cases e with
  | after n =>
    obtain ⟨hlo, hhi⟩ := h
    have hn : natOf (byteOf (n / 256)) (byteOf n) = n := natOf_twoBytes (hhi.trans (by decide))
    exact ⟨_, _, _, rfl, by simp [readEnd, hn, hlo, hhi]⟩
  | atTime t => exact ⟨_, _, _, rfl, by simp [readEnd, readTod_writeTod h]⟩
  | onLightDay => exact ⟨_, _, _, rfl, rfl⟩
  | onLightNight => exact ⟨_, _, _, rfl, rfl⟩

/-! ## The two packed bytes -/

/-- The head byte: action and catch-up flag in the upper bits, the priority below. -/
theorem headByte_fields : ∀ a c : Bool, ∀ p < 12,
    let b := byteOf ((if a then 128 else 0) + (if c then 64 else 0) + p)
    b.getLsbD 7 = a ∧ b.getLsbD 6 = c ∧ b.toNat % 16 = p ∧ (b.toNat / 16 % 4 == 0) = true := by decide

/-- The presence byte: a bit for each optional part, and bit 7 clear. -/
theorem presence_bits : ∀ a b c d e f g : Bool,
    let p := byteOf ((if a then 1 else 0) + (if b then 2 else 0) + (if c then 4 else 0) + (if d then 8 else 0) +
      (if e then 16 else 0) + (if f then 32 else 0) + (if g then 64 else 0))
    p.getLsbD 0 = a ∧ p.getLsbD 1 = b ∧ p.getLsbD 2 = c ∧ p.getLsbD 3 = d ∧ p.getLsbD 4 = e ∧ p.getLsbD 5 = f ∧
      p.getLsbD 6 = g ∧ p.getLsbD 7 = false := by decide

theorem presenceOf_bits (b : EntryBody) :
    (presenceOf b).getLsbD 0 = b.validFrom.isSome ∧ (presenceOf b).getLsbD 1 = b.validUntil.isSome ∧
    (presenceOf b).getLsbD 2 = b.count.isSome ∧ (presenceOf b).getLsbD 3 = b.windowEarliest.isSome ∧
    (presenceOf b).getLsbD 4 = b.windowLatest.isSome ∧ (presenceOf b).getLsbD 5 = b.startFallback.isSome ∧
    (presenceOf b).getLsbD 6 = b.endFallback.isSome ∧ (presenceOf b).getLsbD 7 = false := presence_bits ..

/-- The optional parts of a body, as it is written. -/
def optionalPart (b : EntryBody) : List Byte :=
  orAbsent 0 writeDate b.validFrom ++ (orAbsent 0 writeDate b.validUntil ++ (orAbsent 0 twoBytes b.count ++
    (orAbsent 0 writeTod b.windowEarliest ++ (orAbsent 0 writeTod b.windowLatest ++
      (orAbsent 0 writeTod b.startFallback ++ (orAbsent 0 writeTod b.endFallback ++ []))))))

theorem length_optionalPart (b : EntryBody) : (optionalPart b).length = optionalBytes (presenceOf b) := by
  obtain ⟨h0, h1, h2, h3, h4, h5, h6, -⟩ := presenceOf_bits b
  simp only [optionalPart, List.length_append, length_orAbsent (write := writeDate) (k := 3) fun _ => rfl,
    length_orAbsent (write := twoBytes) (k := 2) fun _ => rfl, length_orAbsent (write := writeTod) (k := 2) fun _ => rfl,
    optionalBytes, h0, h1, h2, h3, h4, h5, h6, List.length_nil]
  omega

/-- A written body: its fourteen bytes one by one, then its optional parts. -/
theorem writeBody_eq {b : EntryBody} {k m h d mo ek hi lo : Byte} (ht : writeTrigger b.trigger = [k, m, h, d, mo])
    (he : writeEnd b.ending = [ek, hi, lo]) :
    writeBody b = byteOf (b.channels.toNat / 256) :: byteOf b.channels.toNat ::
      byteOf ((if b.action then 128 else 0) + (if b.catchUp then 64 else 0) + b.priority) :: k :: m :: h :: d :: mo ::
      b.weekdays :: b.classes :: ek :: hi :: lo :: presenceOf b :: optionalPart b := by
  simp [writeBody, writeSet, twoBytes, ht, he, optionalPart]

/-- Settles O18: the round trips of the fields, in the order of the layout. -/
theorem entryBodyRoundTrip : Obligations.EntryBodyRoundTrip := by
  intro b hb
  obtain ⟨k, m, h, d, mo, hwt, hrt⟩ := readTrigger_writeTrigger hb.trigger
  obtain ⟨ek, hi, lo, hwe, hre⟩ := readEnd_writeEnd hb.ending
  obtain ⟨h0, h1, h2, h3, h4, h5, h6, h7⟩ := presenceOf_bits b
  have hp : b.priority < 12 := by
    have := hb.consistent
    simp only [bodyConsistent, Bool.and_eq_true, decide_eq_true_eq] at this
    omega
  obtain ⟨ha, hc, hpr, hz⟩ := headByte_fields b.action b.catchUp b.priority hp
  rw [writeBody_eq hwt hwe]
  constructor
  · simp [bodyLengthOk, length_optionalPart]
    omega
  · simp only [readBody, hrt, hre, h0, h1, h2, h3, h4, h5, h6, optionalPart, Option.bind_eq_bind, Option.bind_some,
      takeDate_orAbsent fun x hx => hb.dates x (.inl hx), takeDate_orAbsent fun x hx => hb.dates x (.inr hx),
      takeCount_orAbsent hb.count, takeTod_orAbsent fun x hx => hb.times x (.inl hx),
      takeTod_orAbsent fun x hx => hb.times x (.inr (.inl hx)), takeTod_orAbsent fun x hx => hb.times x (.inr (.inr (.inl hx))),
      takeTod_orAbsent fun x hx => hb.times x (.inr (.inr (.inr hx))), readSet_writeSet, ha, hc, hpr]
    rw [if_pos]
    rw [h7, hz]
    simp [hb.weekdays, hb.classes, hb.consistent]

end Sys2Proof.Machine
end

/-! The catch-up check (R43, R44) and CREATE_ENTRY (R13, R14). -/

section
namespace Sys2Proof.Machine

/-- The first element of an ordered list that satisfies a test is one that satisfies it with none before it. -/
theorem find?_eq_some_of_pairwise {α : Type} {r : α → α → Prop} {p : α → Bool} {l : List α} {x : α} (hl : l.Pairwise r)
    (hx : x ∈ l) (hp : p x = true) (hfirst : ∀ y ∈ l, p y = true → ¬ r y x) : l.find? p = some x := by
  induction l with
  | nil => cases hx
  | cons y l ih =>
    obtain ⟨hy, hl⟩ := List.pairwise_cons.mp hl
    cases h : p y with
    | true =>
      obtain rfl | hx := List.mem_cons.mp hx
      · exact List.find?_cons_of_pos h
      · exact absurd (hy x hx) (hfirst y List.mem_cons_self h)
    | false =>
      have hne : x ≠ y := fun e => by simp [e, h] at hp
      rw [List.find?_cons_of_neg (by simp [h])]
      exact ih hl ((List.mem_cons.mp hx).resolve_left hne) fun z hz => hfirst z (List.mem_cons_of_mem _ hz)

/-! ## The minutes examined -/

theorem key_previous_lt {d d' : Date} (h : d.previous = some d') : d'.key < d.key := by
  have hm := monthLength_le d.year (d.month - 1)
  unfold Date.previous at h
  split_ifs at h
  all_goals
    cases h
    simp only [Date.key]
    omega

/-- The minutes of a date that have a given minute of the hour, latest first. -/
def hourly (d : Date) (minute : Nat) : List CalMinute := (List.range 24).reverse.map fun h => ⟨d, ⟨h, minute⟩⟩

theorem mem_hourly {d : Date} {minute : Nat} {m : CalMinute} :
    m ∈ hourly d minute ↔ m.date = d ∧ m.tod.hour ≤ 23 ∧ m.tod.minute = minute := by
  obtain ⟨d', h, n⟩ := m
  simp only [hourly, List.mem_map, List.mem_reverse, List.mem_range, CalMinute.mk.injEq, TimeOfDay.mk.injEq]
  constructor
  · rintro ⟨h', hlt, rfl, rfl, rfl⟩
    exact ⟨rfl, by omega, rfl⟩
  · rintro ⟨rfl, hle, rfl⟩
    exact ⟨h, by omega, rfl, rfl, rfl⟩

theorem hourly_descending (d : Date) (minute : Nat) : (hourly d minute).Pairwise fun x y => y.key < x.key := by
  rw [hourly, List.pairwise_map, List.pairwise_reverse]
  refine List.pairwise_lt_range.imp fun h => ?_
  simp only [CalMinute.key, TimeOfDay.minutes]
  omega

theorem lastDay_eq (s : State) (minute : Nat) : s.lastDay minute =
    (hourly s.time.time.date minute).filter (fun m => m.tod.minutes < s.time.time.tod.minutes ||
      (m.tod.minutes == s.time.time.tod.minutes && 0 < s.time.time.second)) ++
    (s.time.time.date.previous.elim [] fun d => (hourly d minute).filter fun m => s.time.time.tod.minutes < m.tod.minutes ||
      (m.tod.minutes == s.time.time.tod.minutes && s.time.time.second == 0)) := by
  unfold State.lastDay
  cases h : s.time.time.date.previous <;> simp only [h] <;> rfl

/-- The minutes listed for a check are those it examines that have the minute of the hour (R44). -/
theorem mem_lastDay {s : State} {minute : Nat} (hm : minute ≤ 59) {m : CalMinute} :
    m ∈ s.lastDay minute ↔ s.Examines m ∧ m.tod.minute = minute := by
  rw [lastDay_eq]
  cases hp : s.time.time.date.previous with
  | none => grind [State.Examines, mem_hourly, TimeOfDay.isReal]
  | some d => grind [State.Examines, mem_hourly, TimeOfDay.isReal]

theorem lastDay_descending (s : State) {minute : Nat} (hm : minute ≤ 59) :
    (s.lastDay minute).Pairwise fun x y => y.key < x.key := by
  rw [lastDay_eq]
  cases hp : s.time.time.date.previous with
  | none => simpa using (hourly_descending _ _).filter _
  | some d =>
    rw [Option.elim_some]
    refine List.pairwise_append.mpr ⟨(hourly_descending _ _).filter _, (hourly_descending _ _).filter _, fun x hx y hy => ?_⟩
    obtain ⟨hxd, -, -⟩ := mem_hourly.mp (List.mem_filter.mp hx).1
    obtain ⟨hyd, hyh, hym⟩ := mem_hourly.mp (List.mem_filter.mp hy).1
    have hk := key_previous_lt hp
    rw [← hxd, ← hyd] at hk
    simp only [CalMinute.key, TimeOfDay.minutes]
    omega

/-- Would an entry have started at a minute, by its pattern and its eligible days (R44)? -/
def State.startsAt (s : State) (b : EntryBody) (m : CalMinute) : Bool :=
  b.trigger.matchesMinute m && b.eligible m.date (lookupClass s.calendar.records m.date) && b.inForce m.date

theorem wouldStart_iff {s : State} {b : EntryBody} {m : CalMinute} :
    s.WouldStart b m ↔ s.Examines m ∧ s.startsAt b m = true := by
  simp [State.WouldStart, State.startsAt, and_assoc]

theorem missedStart_of_time {s : State} {b : EntryBody} {minute : Nat} {hour day month : Option Nat}
    (h : b.trigger = .atTime minute hour day month) : s.missedStart b = (s.lastDay minute).find? (s.startsAt b) := by
  unfold State.missedStart State.startsAt
  simp only [h]

theorem missedStart_of_light {s : State} {b : EntryBody} (h : b.trigger.isTime = false) : s.missedStart b = none := by
  unfold State.missedStart
  cases ht : b.trigger with
  | atTime => simp [ht, StartTrigger.isTime] at h
  | _ => rfl

/-- A minute at which the entry would have started is among those listed for its pattern. -/
theorem mem_lastDay_of_wouldStart {s : State} {b : EntryBody} {minute : Nat} {hour day month : Option Nat}
    (h : b.trigger = .atTime minute hour day month) (hm : minute ≤ 59) {m : CalMinute} (hw : s.WouldStart b m) :
    m ∈ s.lastDay minute := by
  obtain ⟨hx, hmatch, -⟩ := hw
  refine (mem_lastDay hm).mpr ⟨hx, ?_⟩
  simp only [h, StartTrigger.matchesMinute, Bool.and_eq_true, beq_iff_eq] at hmatch
  exact hmatch.1.1.1.symm

theorem missedStart_of_none {s : State} {b : EntryBody} (hr : b.trigger.InRange) (h : ∀ m, ¬ s.WouldStart b m) :
    s.missedStart b = none := by
  cases ht : b.trigger with
  | atTime minute hour day month =>
    rw [ht] at hr
    rw [missedStart_of_time ht, List.find?_eq_none]
    exact fun m hm hs => h m (wouldStart_iff.mpr ⟨((mem_lastDay hr.1).mp hm).1, hs⟩)
  | _ => exact missedStart_of_light (by rw [ht]; rfl)

theorem missedStart_of_latest {s : State} {b : EntryBody} (hr : b.trigger.InRange) {m : CalMinute} (h : s.LatestStart b m) :
    s.missedStart b = some m := by
  obtain ⟨hw, hlatest⟩ := h
  cases ht : b.trigger with
  | atTime minute hour day month =>
    rw [ht] at hr
    rw [missedStart_of_time ht]
    refine find?_eq_some_of_pairwise (lastDay_descending s hr.1) (mem_lastDay_of_wouldStart ht hr.1 hw)
      (wouldStart_iff.mp hw).2 fun n hn hs => ?_
    exact Nat.not_lt.mpr (hlatest n (wouldStart_iff.mpr ⟨((mem_lastDay hr.1).mp hn).1, hs⟩))
  | _ => simp [State.WouldStart, ht, StartTrigger.matchesMinute] at hw

/-! ## The check (R43, R44) -/

section
variable {s : State} {i : SlotNo} {gen : Byte} {e : Entry}

theorem catchUp_of_free (hi : (s.slot i).entry = none) : s.catchUp i = s := by
  unfold State.catchUp
  simp only [hi]

/-- No check while time is not VALID, without the flag, or of an entry that is not ARMED. -/
theorem catchUp_of_unchecked (hi : s.slot i = ⟨gen, some e⟩)
    (h : s.time.validity ≠ .valid ∨ e.body.catchUp = false ∨ e.state ≠ .armed) : s.catchUp i = s := by
  unfold State.catchUp
  have hc : (s.timeValid && e.body.catchUp && e.state == .armed) = false := by
    obtain h | h | h := h <;> simp [State.timeValid, h]
  simp only [hi, hc, Bool.false_eq_true, if_false]

/-- A check that finds no minute, or whose entry has no AT end, changes nothing. -/
theorem catchUp_of_missedStart_none (hi : s.slot i = ⟨gen, some e⟩) (h : s.missedStart e.body = none) : s.catchUp i = s := by
  unfold State.catchUp
  simp only [hi, h]
  split
  · split
    · cases ‹none = some _›
    · rfl
  · rfl

theorem catchUp_of_latest (hi : s.slot i = ⟨gen, some e⟩) (hv : s.time.validity = .valid) (hf : e.body.catchUp = true)
    (he : e.state = .armed) {t : TimeOfDay} (hend : e.body.ending = .atTime t) {m : CalMinute}
    (hm : s.missedStart e.body = some m) :
    s.catchUp i = if s.now.key < (m.firstAfter t).key then s.start i (some (m.firstAfter t)) else s := by
  unfold State.catchUp
  have hc : (s.timeValid && e.body.catchUp && e.state == .armed) = true := by simp [State.timeValid, hv, hf, he]
  simp only [hi, hc, if_true, hend, hm]

/-- A check leaves the state or starts the entry. -/
theorem catchUp_cases (s : State) (i : SlotNo) : s.catchUp i = s ∨ ∃ f, s.catchUp i = s.start i f := by
  unfold State.catchUp
  dsimp only
  repeat' split
  all_goals simp

theorem catchUp_touches (hi : s.slot i = ⟨gen, some e⟩) : s.Touches i (· ∈ channelsOf e.body.channels) (s.catchUp i) := by
  obtain h | ⟨f, h⟩ := catchUp_cases s i
  · rw [h]; exact .refl s
  · rw [h]; exact start_touches hi f

end

/-- The record of an entry that a catch-up check starts (R44): the end instant found, and a cap of 1440 minutes. -/
theorem started_of_catchUp {e : Entry} {t : TimeOfDay} (h : e.body.ending = .atTime t) (now finish : CalMinute) :
    e.started now (some finish) false = { e with
      state := .active ⟨now, some finish, none, none, 1440⟩ false, starts := min 65535 (e.starts + 1), lastStart := some now.date,
      body := { e.body with count := e.body.count.map (· - 1) } } := by
  simp [Entry.started, EntryBody.claimState, h, EntryEnd.isLight, Config.capMinutes]

/-! ## CREATE_ENTRY (R13, R14) -/

theorem chooseSlot_of_free {s : State} {i : SlotNo} (hi : (s.slot i).entry = none) (hj : ∀ j, j < i → (s.slot j).entry ≠ none) :
    s.chooseSlot = some (i, s) := by
  have hfind : (allSlots.find? fun i => (s.slot i).entry.isNone) = some i :=
    find?_eq_some_of_pairwise (List.pairwise_lt_finRange 128) (mem_allSlots i) (by simp [hi]) fun j _ hn hlt =>
      hj j hlt (by simpa using hn)
  unfold State.chooseSlot
  simp only [hfind]

theorem chooseSlot_of_full {s : State} (hf : ∀ i, (s.slot i).entry ≠ none) :
    s.chooseSlot = s.table.endedOrder.head?.map fun j => (j, (s.clearSlot j).raiseEntry j .reclaimed) := by
  have hfind : (allSlots.find? fun i => (s.slot i).entry.isNone) = none :=
    List.find?_eq_none.mpr fun i _ hn => hf i (by simpa using hn)
  unfold State.chooseSlot
  simp only [hfind]
  cases s.table.endedOrder <;> rfl

theorem makeEntry_of_expired {s : State} {b : EntryBody} (o : Origin) (h : s.judge b = .expired) :
    s.makeEntry o b = .error .expiredAlready := by
  rw [State.makeEntry, if_pos h]

theorem makeEntry_of_no_slot {s : State} {b : EntryBody} (o : Origin) (h : s.judge b ≠ .expired) (hc : s.chooseSlot = none) :
    s.makeEntry o b = .error .tableFull := by
  rw [State.makeEntry, if_neg h]
  simp only [hc]

/-- The entry that a well-formed body makes (R13). -/
def State.newEntry (s : State) (o : Origin) (b : EntryBody) : Entry :=
  ⟨o, b, if s.judge b = .armed then .armed else .waiting, 0, 0, none⟩

theorem makeEntry_of_slot {s t : State} {b : EntryBody} {i : SlotNo} (o : Origin) (h : s.judge b ≠ .expired)
    (hc : s.chooseSlot = some (i, t)) : s.makeEntry o b =
      .ok (i, ((t.setEntry i (s.newEntry o b)).raiseEntry i (if o = .host then .created else .loaded)).catchUp i) := by
  rw [State.makeEntry, if_neg h]
  simp only [hc]
  rfl

theorem cmdCreateEntry_of_error {s : State} {p : List Byte} {b : EntryBody} {r : Result} (hl : s.loadRunning = false)
    (hp : bodyLengthOk p = true) (hb : readBody p = some b) (h : s.makeEntry .host b = .error r) :
    cmdCreateEntry p s = .error r := by
  unfold cmdCreateEntry
  simp only [hl, hp, hb, h, Bool.not_false, check_true]

theorem cmdCreateEntry_of_ok {s t : State} {p : List Byte} {b : EntryBody} {i : SlotNo} (hl : s.loadRunning = false)
    (hp : bodyLengthOk p = true) (hb : readBody p = some b) (h : s.makeEntry .host b = .ok (i, t)) :
    cmdCreateEntry p s = .ok (t, t.handle i ++ [t.stateCode i]) := by
  unfold cmdCreateEntry
  simp only [hl, hp, hb, h, Bool.not_false, check_true]

/-- A start leaves the generation of the slot. -/
theorem catchUp_generation {s : State} {i : SlotNo} {gen : Byte} {e : Entry} (hi : s.slot i = ⟨gen, some e⟩) :
    ((s.catchUp i).slot i).generation = gen := by
  have hstart (f : Option CalMinute) : ((s.start i f).slot i).generation = gen := by
    cases ho : e.offered with
    | false => rw [start_of_not_offered hi ho, hi]
    | true =>
      cases he : e.state with
      | armed =>
        by_cases hf : s.freeCount < setSize e.body.channels
        · rw [start_of_missed hi he hf, State.raiseEntry_slot, slot_setEntry_self, hi]
        · rw [start_armed_slot hi he (Nat.not_lt.mp hf)]
      | active k m =>
        rw [start_active_slot hi he (by simpa [Entry.offered, he] using ho)]
      | _ => simp [Entry.offered, he] at ho
  obtain h | ⟨f, h⟩ := catchUp_cases s i
  · rw [h, hi]
  · rw [h, hstart f]

/-- Settles O19: the slot chosen decides the first part, the check's branches the second. -/
theorem createEntryMakesEntry : Obligations.CreateEntryMakesEntry := by
  constructor
  · intro s tag p b h hl hp hb
    have hlen : p.length ≤ Config.maxParams := by
      have := length_of_bodyLengthOk hp
      simp only [Config.maxParams]; omega
    have hfail {r : Result} (hm : s.makeEntry .host b = .error r) :
        exec (.createEntry tag p) s = .next (s.refusedWith 0x10 tag r) :=
      congrArg Host.Outcome.next (submit_refused h hlen (by decide) (cmdCreateEntry_of_error hl hp hb hm))
    have hmake {t : State} {i : SlotNo} (hj : s.judge b ≠ .expired) (hc : s.chooseSlot = some (i, t)) :
        let u := ((t.setEntry i (s.newEntry .host b)).raiseEntry i .created).catchUp i
        exec (.createEntry tag p) s = .next (u.replied 0x10 tag [byteOf i.val, (t.slot i).generation, u.stateCode i]) := by
      have hgen := catchUp_generation (s := (t.setEntry i (s.newEntry .host b)).raiseEntry i .created)
        (slot_setEntry_self t i (s.newEntry .host b))
      refine congrArg Host.Outcome.next (submit_replied h hlen (by decide) (by decide)
        ((cmdCreateEntry_of_ok hl hp hb (makeEntry_of_slot .host hj hc)).trans ?_))
      rw [State.handle, if_pos rfl, hgen]
      rfl
    refine ⟨fun hj => hfail (makeEntry_of_expired .host hj), fun hj i hi hlow => hmake hj (chooseSlot_of_free hi hlow),
      fun hj hf j rest ho => ?_, fun hj hf ho => hfail (makeEntry_of_no_slot .host hj ?_)⟩
    · have hgen : (((s.clearSlot j).raiseEntry j .reclaimed).slot j).generation = (s.slot j).generation + 1 := by
        rw [State.raiseEntry_slot, clearSlot_slot]
      rw [← hgen]
      exact hmake hj (by rw [chooseSlot_of_full hf, ho]; rfl)
    · rw [chooseSlot_of_full hf, ho]; rfl
  · intro s i gen e hi _ hr
    refine ⟨catchUp_of_unchecked hi, fun h => catchUp_of_missedStart_none hi (missedStart_of_none hr h),
      fun m t hv hf he hend hm => ?_⟩
    have hc := catchUp_of_latest hi hv hf he hend (missedStart_of_latest hr hm)
    refine ⟨fun hlate => ?_, fun hin hfree => ?_, fun hin hfree => ?_⟩
    · rw [hc, if_neg (Nat.not_lt.mpr hlate)]
    · rw [hc, if_pos hin, start_of_missed hi he hfree]
    · rw [hc, if_pos hin]
      refine ⟨?_, start_armed_freeCount hi he hfree _, fun c hcs => start_armed_placed hi he hfree _ hcs⟩
      rw [start_armed_slot hi he hfree, started_of_catchUp hend]
      rfl

end Sys2Proof.Machine
end

/-! The passes over the table (R32 to R35, R45): what each stage does at one slot, and what a pass does to an entry alone in the table. -/

section
namespace Sys2Proof.Machine

/-! ## A pass over the slots -/

/-- The doing of a pass over the table: it passes over a FREE slot, and at an entry it touches that slot alone, and channels. -/
structure SlotStage (f : State → SlotNo → State) : Prop where
  free : ∀ (s : State) (i : SlotNo), (s.slot i).entry = none → f s i = s
  touches : ∀ (s : State) (i : SlotNo), s.Touches i (fun _ => True) (f s i)

/-- A stage shown at a slot that holds an entry. -/
theorem SlotStage.of_entry {f : State → SlotNo → State} (hfree : ∀ (s : State) (i : SlotNo), (s.slot i).entry = none → f s i = s)
    (h : ∀ (s : State) (i : SlotNo) gen e, s.slot i = ⟨gen, some e⟩ → s.Touches i (fun _ => True) (f s i)) : SlotStage f where
  free := hfree
  touches s i := by
    cases he : (s.slot i).entry with
    | none => rw [hfree s i he]; exact .refl s
    | some e => exact h s i _ e (slot_of_entry he)

section
variable {f : State → SlotNo → State} (hf : SlotStage f) (s : State)
include hf

theorem SlotStage.forEach_same (l : List SlotNo) : s.SameElsewhere (s.forEach l f) :=
  forEach_keeps (P := fun t => s.SameElsewhere t) (fun t i _ h => h.trans (hf.touches t i).same) (.refl s)

theorem SlotStage.forEach_calendar (l : List SlotNo) : (s.forEach l f).calendar = s.calendar :=
  forEach_keeps (P := fun t => t.calendar = s.calendar) (fun t i _ h => (hf.touches t i).calendar.trans h) rfl

theorem SlotStage.forEach_reports (l : List SlotNo) {k : ChangeKind} {n b : Nat} (h : s.Reports k n b) :
    (s.forEach l f).Reports k n b :=
  forEach_keeps (P := fun t => t.Reports k n b) (fun t i _ h => (hf.touches t i).reports k n b h) h

/-- A slot that its own doing leaves stands after the pass. -/
theorem SlotStage.forEach_slot (l : List SlotNo) (j : SlotNo) (h : ∀ t : State, t.slot j = s.slot j → f t j = t) :
    (s.forEach l f).slot j = s.slot j := by
  refine forEach_keeps (P := fun t => t.slot j = s.slot j) (fun t i _ ht => ?_) rfl
  by_cases hj : j = i
  · subst hj; rw [h t ht, ht]
  · rw [(hf.touches t i).slots j hj, ht]

end

/-- Every slot but one is FREE. -/
def State.OthersFree (s : State) (i : SlotNo) : Prop := ∀ j, j ≠ i → (s.slot j).entry = none

theorem State.Touches.othersFree {i : SlotNo} {C : Chan → Prop} {s t : State} (h : s.Touches i C t) (hs : s.OthersFree i) :
    t.OthersFree i := fun j hj => by rw [h.slots j hj]; exact hs j hj

/-- A pass over a table that holds one entry is the doing at its slot. -/
theorem SlotStage.forEach_alone {f : State → SlotNo → State} (hf : SlotStage f) {s : State} {i : SlotNo} (h : s.OthersFree i) :
    s.forEach allSlots f = f s i := by
  have pass (l : List SlotNo) (hl : l.Nodup) (s : State) (h : s.OthersFree i) :
      s.forEach l f = if i ∈ l then f s i else s := by
    induction l generalizing s with
    | nil => simp [forEach_nil]
    | cons j l ih =>
      obtain ⟨hj, hl⟩ := List.nodup_cons.mp hl
      rw [forEach_cons]
      by_cases hji : j = i
      · subst hji
        rw [ih hl _ ((hf.touches s j).othersFree h), if_neg hj, if_pos List.mem_cons_self]
      · rw [hf.free s j (h j hji), ih hl _ h]
        simp [Ne.symm hji]
  rw [pass _ allSlots_nodup s h, if_pos (mem_allSlots i)]

/-! ## What the dates and the light say (R7, R8, R32, R35) -/

theorem pastUntil_iff {b : EntryBody} {d : Date} : b.pastUntil d = true ↔ b.Past d := by
  unfold EntryBody.pastUntil EntryBody.Past
  cases b.validUntil <;> simp

theorem beforeFrom_iff {b : EntryBody} {d : Date} : b.beforeFrom d = true ↔ b.Early d := by
  unfold EntryBody.beforeFrom EntryBody.Early
  cases b.validFrom <;> simp

theorem lightInDoubt_iff {s : State} : s.lightInDoubt = true ↔ s.LightDoubted := by
  simp [State.lightInDoubt, State.LightDoubted, or_assoc]

theorem reached_iff {m : Option CalMinute} {now : CalMinute} : reached m now = true ↔ ∃ x, m = some x ∧ x.key ≤ now.key := by
  unfold reached
  cases m <;> simp

/-- A claim end is due once the countdowns are lowered exactly when it was due as told from the claim before (R32). -/
theorem endDue_lowered_iff {s : State} {k : ClaimState} : s.endDue k.lowered = true ↔ s.EndDue k := by
  have hrem : (k.remaining.map (· - 1) == some 0) = true ↔ ∃ n, k.remaining = some n ∧ n ≤ 1 := by
    cases k.remaining <;> simp; omega
  have hcap : (k.cap - 1 == 0) = true ↔ k.cap ≤ 1 := by simp; omega
  simp only [State.endDue, ClaimState.lowered, Bool.or_eq_true, Bool.and_eq_true, hrem, hcap, reached_iff, lightInDoubt_iff,
    State.EndDue, or_assoc]

/-! ## The stages at one slot -/

section
variable {s : State} {i : SlotNo} {gen : Byte} {e : Entry}

/-! ### The claim-end stage (R32) -/

theorem tickSlot_of_free (hi : (s.slot i).entry = none) : s.tickSlot i = s := by
  unfold State.tickSlot
  simp only [hi]

theorem tickSlot_of_not_active (hi : s.slot i = ⟨gen, some e⟩) (he : e.state.isActive = false) : s.tickSlot i = s := by
  unfold State.tickSlot
  cases hs : e.state with
  | active k m => simp [hs, EntryState.isActive] at he
  | _ => simp only [hi, hs]

/-- The state once an ACTIVE entry's countdowns are lowered. -/
def State.counted (s : State) (i : SlotNo) (e : Entry) (k : ClaimState) (m : Bool) : State :=
  s.setEntry i { e with state := .active k.lowered m }

theorem tickSlot_of_active {k : ClaimState} {m : Bool} (hi : s.slot i = ⟨gen, some e⟩) (he : e.state = .active k m) :
    s.tickSlot i = if s.endDue k.lowered then (s.counted i e k m).endClaim i else s.counted i e k m := by
  unfold State.tickSlot
  simp only [hi, he]
  rfl

theorem counted_slot (hi : s.slot i = ⟨gen, some e⟩) (k : ClaimState) (m : Bool) :
    (s.counted i e k m).slot i = ⟨gen, some { e with state := .active k.lowered m }⟩ := by
  rw [State.counted, slot_setEntry_self, hi]

theorem tickSlot_touches (hi : s.slot i = ⟨gen, some e⟩) : s.Touches i (· ∈ channelsOf e.body.channels) (s.tickSlot i) := by
  cases he : e.state with
  | active k m =>
    rw [tickSlot_of_active hi he]
    split
    · have hend := endClaim_touches (counted_slot hi k m)
      exact (setEntry_touches s i _).trans hend
    · exact setEntry_touches s i _
  | _ => rw [tickSlot_of_not_active hi (by rw [he]; rfl)]; exact .refl s

theorem tickSlot_stage : SlotStage State.tickSlot :=
  .of_entry (fun _ _ h => tickSlot_of_free h) fun _ _ _ _ hi => (tickSlot_touches hi).mono fun _ _ => trivial

/-! ### The expiry test (R8) -/

/-- The state that the expiry test leaves an entry in. -/
def Entry.afterExpiry (e : Entry) (clearMarks : Bool) (today : Date) (now : CalMinute) : EntryState :=
  match e.state with
  | .active k m => .active k (e.body.pastUntil today || m && !(clearMarks && e.body.validUntil.isSome))
  | .ended r x => .ended r x
  | x => if e.body.pastUntil today then .ended .expired now else x

theorem expireSlot_of_free (clear : Bool) (hi : (s.slot i).entry = none) : s.expireSlot clear i = s := by
  unfold State.expireSlot
  simp only [hi]

/-- The test leaves the state, stores the entry's state anew, or ends the entry with EXPIRED. -/
theorem expireSlot_cases (clear : Bool) (hi : s.slot i = ⟨gen, some e⟩) :
    (s.expireSlot clear i = s ∧ e.afterExpiry clear s.today s.now = e.state) ∨
    s.expireSlot clear i = s.setEntry i { e with state := e.afterExpiry clear s.today s.now } ∨
    (s.expireSlot clear i = (s.toEnded i e .expired).raiseEntry i .expired ∧
      e.afterExpiry clear s.today s.now = .ended .expired s.now) := by
  unfold State.expireSlot Entry.afterExpiry
  cases he : e.state with
  | active k m => cases hp : e.body.pastUntil s.today <;> cases m <;> cases clear <;> cases hu : e.body.validUntil <;> simp [hi, he, hp, hu]
  | ended => simp [hi, he]
  | _ => cases hp : e.body.pastUntil s.today <;> simp [hi, he, hp]

theorem expireSlot_slot (clear : Bool) (hi : s.slot i = ⟨gen, some e⟩) :
    (s.expireSlot clear i).slot i = ⟨gen, some { e with state := e.afterExpiry clear s.today s.now }⟩ := by
  obtain ⟨h, hx⟩ | h | ⟨h, hx⟩ := expireSlot_cases clear hi
  · rw [h, hx, hi]
  · rw [h, slot_setEntry_self, hi]
  · rw [h, hx, State.raiseEntry_slot, toEnded_slot, hi]

/-- The test touches no channel. -/
theorem expireSlot_touches (clear : Bool) (hi : s.slot i = ⟨gen, some e⟩) :
    s.Touches i (fun _ => False) (s.expireSlot clear i) := by
  obtain ⟨h, -⟩ | h | ⟨h, -⟩ := expireSlot_cases clear hi <;> rw [h]
  · exact .refl s
  · exact setEntry_touches s i _
  · exact (toEnded_touches s i e _).trans (raise_touches _ i _ _ _)

theorem expireSlot_freeCount (clear : Bool) (hi : s.slot i = ⟨gen, some e⟩) : (s.expireSlot clear i).freeCount = s.freeCount := by
  obtain ⟨h, -⟩ | h | ⟨h, -⟩ := expireSlot_cases clear hi <;> rw [h]
  · rfl
  · rfl

/-- An entry without a claim that is past its valid-until ends in the ENDED order, with EXPIRED (R8, R15). -/
theorem expireSlot_of_past (clear : Bool) (hi : s.slot i = ⟨gen, some e⟩)
    (he : e.state = .waiting ∨ e.state = .armed ∨ e.state = .suspended) (hp : e.body.pastUntil s.today = true) :
    s.expireSlot clear i = (s.toEnded i e .expired).raiseEntry i .expired := by
  unfold State.expireSlot
  obtain he | he | he := he <;> simp only [hi, he, hp, if_true]

theorem expireSlot_stage (clear : Bool) : SlotStage (State.expireSlot clear) :=
  .of_entry (fun _ _ h => expireSlot_of_free clear h) fun _ _ _ _ hi => (expireSlot_touches clear hi).mono fun _ h => h.elim

/-! ### Arming (R7) -/

/-- The state that the arming leaves an entry in. -/
def Entry.afterArming (e : Entry) (today : Date) : EntryState :=
  if e.state = .waiting ∧ e.body.beforeFrom today = false then .armed else e.state

theorem armSlot_of_free (hi : (s.slot i).entry = none) : s.armSlot i = s := by
  unfold State.armSlot
  simp only [hi]

theorem armSlot_cases (hi : s.slot i = ⟨gen, some e⟩) :
    (s.armSlot i = s ∧ e.afterArming s.today = e.state) ∨ s.armSlot i = s.setEntry i { e with state := e.afterArming s.today } := by
  unfold State.armSlot Entry.afterArming
  by_cases he : e.state = .waiting <;> cases hb : e.body.beforeFrom s.today <;> simp [hi, he, hb]

theorem armSlot_slot (hi : s.slot i = ⟨gen, some e⟩) :
    (s.armSlot i).slot i = ⟨gen, some { e with state := e.afterArming s.today }⟩ := by
  obtain ⟨h, hx⟩ | h := armSlot_cases hi
  · rw [h, hx, hi]
  · rw [h, slot_setEntry_self, hi]

theorem armSlot_touches (hi : s.slot i = ⟨gen, some e⟩) : s.Touches i (fun _ => False) (s.armSlot i) := by
  obtain ⟨h, -⟩ | h := armSlot_cases hi <;> rw [h]
  · exact .refl s
  · exact setEntry_touches s i _

theorem armSlot_freeCount (hi : s.slot i = ⟨gen, some e⟩) : (s.armSlot i).freeCount = s.freeCount := by
  obtain ⟨h, -⟩ | h := armSlot_cases hi <;> rw [h]
  rfl

theorem armSlot_of_not_waiting (hi : s.slot i = ⟨gen, some e⟩) (he : e.state ≠ .waiting) : s.armSlot i = s := by
  unfold State.armSlot
  simp [hi, he]

theorem armSlot_stage : SlotStage State.armSlot :=
  .of_entry (fun _ _ h => armSlot_of_free h) fun _ _ _ _ hi => (armSlot_touches hi).mono fun _ h => h.elim

/-! ### Starts (R34, R35) -/

theorem startSlot_of_free (hi : (s.slot i).entry = none) : s.startSlot i = s := by
  unfold State.startSlot
  simp only [hi]

theorem startSlot_of_entry (hi : s.slot i = ⟨gen, some e⟩) : s.startSlot i = if s.startsNow e then s.start i none else s := by
  unfold State.startSlot
  simp only [hi]

theorem startSlot_stage : SlotStage State.startSlot :=
  .of_entry (fun _ _ h => startSlot_of_free h) fun s i _ _ hi => by
    rw [startSlot_of_entry hi]
    split
    · exact (start_touches hi none).mono fun _ _ => trivial
    · exact .refl s

theorem isTime_of_matchesMinute {t : StartTrigger} {m : CalMinute} (h : t.matchesMinute m = true) : t.isTime = true := by
  cases t with
  | atTime => rfl
  | _ => cases h

/-- The start stage starts an entry, while time is VALID, exactly when its state and count allow it and a start is offered (R34, R35). -/
theorem startsNow_iff : s.time.validity = .valid ∧ s.startsNow e = true ↔
    e.offered = true ∧ s.StartOffered e s.calendar.todayClass := by
  have hfrom : (!e.body.beforeFrom s.today) = true ↔ ¬ e.body.Early s.today := by rw [← beforeFrom_iff]; simp
  have huntil : (!e.body.pastUntil s.today) = true ↔ ¬ e.body.Past s.today := by rw [← pastUntil_iff]; simp
  have hmatch := isTime_of_matchesMinute (t := e.body.trigger) (m := s.now)
  simp only [State.startsNow, State.StartOffered, EntryBody.inForce, Bool.and_eq_true, hfrom, huntil, Entry.freshToday]
  split
  · next ht => simp [ht]; tauto
  · next ht =>
    have hno : e.body.trigger.matchesMinute s.now ≠ true := fun h => ht (hmatch h)
    simp [ht, hno, lightInDoubt_iff]; tauto

/-! ### The ends of SET_TIME (R45) -/

theorem endPastSlot_of_free (hi : (s.slot i).entry = none) : s.endPastSlot i = s := by
  unfold State.endPastSlot
  simp only [hi]

theorem endPastSlot_of_not_active (hi : s.slot i = ⟨gen, some e⟩) (he : e.state.isActive = false) : s.endPastSlot i = s := by
  unfold State.endPastSlot
  cases hs : e.state with
  | active k m => simp [hs, EntryState.isActive] at he
  | _ => simp only [hi, hs]

theorem endPastSlot_of_active {k : ClaimState} {m : Bool} (hi : s.slot i = ⟨gen, some e⟩) (he : e.state = .active k m) :
    s.endPastSlot i = if e.body.ending.isTime && reached k.endInstant s.now then s.endClaim i else s := by
  unfold State.endPastSlot
  simp only [hi, he]

theorem endPastSlot_touches (hi : s.slot i = ⟨gen, some e⟩) :
    s.Touches i (· ∈ channelsOf e.body.channels) (s.endPastSlot i) := by
  cases he : e.state with
  | active k m =>
    rw [endPastSlot_of_active hi he]
    split
    · exact endClaim_touches hi
    · exact .refl s
  | _ => rw [endPastSlot_of_not_active hi (by rw [he]; rfl)]; exact .refl s

theorem endPastSlot_stage : SlotStage State.endPastSlot :=
  .of_entry (fun _ _ h => endPastSlot_of_free h) fun _ _ _ _ hi => (endPastSlot_touches hi).mono fun _ _ => trivial

theorem catchUp_stage : SlotStage State.catchUp :=
  .of_entry (fun _ _ h => catchUp_of_free h) fun _ _ _ _ hi => (catchUp_touches hi).mono fun _ _ => trivial

/-! ### The date tests of a day: the expiry test, then the arming (R33, R45) -/

/-- The date tests at one slot. -/
def State.dateTests (s : State) (clear : Bool) (i : SlotNo) : State := (s.expireSlot clear i).armSlot i

/-- The state that the date tests leave an entry in. -/
def Entry.afterDates (e : Entry) (clear : Bool) (today : Date) (now : CalMinute) : EntryState :=
  { e with state := e.afterExpiry clear today now }.afterArming today

theorem expiryTest_arming_alone (clear : Bool) (h : s.OthersFree i) : (s.expiryTest clear).arming = s.dateTests clear i := by
  rw [State.expiryTest, State.arming, (expireSlot_stage clear).forEach_alone h,
    armSlot_stage.forEach_alone (((expireSlot_stage clear).touches s i).othersFree h), State.dateTests]

theorem dateTests_slot (clear : Bool) (hi : s.slot i = ⟨gen, some e⟩) :
    (s.dateTests clear i).slot i = ⟨gen, some { e with state := e.afterDates clear s.today s.now }⟩ := by
  rw [State.dateTests, armSlot_slot (expireSlot_slot clear hi), (expireSlot_touches clear hi).today]
  rfl

theorem dateTests_touches (clear : Bool) (hi : s.slot i = ⟨gen, some e⟩) :
    s.Touches i (fun _ => False) (s.dateTests clear i) :=
  (expireSlot_touches clear hi).trans (armSlot_touches (expireSlot_slot clear hi))

theorem dateTests_freeCount (clear : Bool) (hi : s.slot i = ⟨gen, some e⟩) : (s.dateTests clear i).freeCount = s.freeCount :=
  (armSlot_freeCount (expireSlot_slot clear hi)).trans (expireSlot_freeCount clear hi)

/-- An entry without a claim that is past its valid-until: its place in the ENDED order and its reason. -/
theorem dateTests_of_past (clear : Bool) (hi : s.slot i = ⟨gen, some e⟩)
    (he : e.state = .waiting ∨ e.state = .armed ∨ e.state = .suspended) (hp : e.body.Past s.today) :
    i ∈ (s.dateTests clear i).table.endedOrder ∧ (s.dateTests clear i).Reports .entry i.val 5 := by
  have hx := expireSlot_of_past clear hi he (pastUntil_iff.mpr hp)
  have hslot : (s.expireSlot clear i).slot i = ⟨gen, some { e with state := .ended .expired s.now }⟩ := by
    rw [hx, State.raiseEntry_slot, toEnded_slot, hi]
  rw [State.dateTests, armSlot_of_not_waiting hslot (by simp), hx]
  exact ⟨(mem_endedOrder_toEnded s i e _ i).mpr (.inl rfl), raise_reports _ _ _ (by decide)⟩

end

section
variable {e : Entry} {clear : Bool} {today : Date} {now : CalMinute}

theorem afterDates_of_past (he : e.state = .waiting ∨ e.state = .armed ∨ e.state = .suspended) (hp : e.body.Past today) :
    e.afterDates clear today now = .ended .expired now := by
  have hp := pastUntil_iff.mpr hp
  obtain he | he | he := he <;> simp [Entry.afterDates, Entry.afterArming, Entry.afterExpiry, he, hp]

theorem afterDates_of_active {k : ClaimState} {m : Bool} (he : e.state = .active k m) : e.afterDates clear today now =
    .active k (e.body.pastUntil today || m && !(clear && e.body.validUntil.isSome)) := by
  simp [Entry.afterDates, Entry.afterArming, Entry.afterExpiry, he]

theorem afterDates_of_ended (he : e.state.isEnded = true) : e.afterDates clear today now = e.state := by
  cases hs : e.state with
  | ended => simp [Entry.afterDates, Entry.afterArming, Entry.afterExpiry, hs]
  | _ => simp [hs, EntryState.isEnded] at he

theorem afterExpiry_of_kept (he : e.state.isActive = false) (hp : ¬ e.body.Past today) :
    e.afterExpiry clear today now = e.state := by
  have hp : e.body.pastUntil today = false := Bool.eq_false_iff.mpr fun h => hp (pastUntil_iff.mp h)
  cases hs : e.state with
  | active => simp [hs, EntryState.isActive] at he
  | _ => simp [Entry.afterExpiry, hs, hp]

/-- A WAITING entry whose valid-from is reached is ARMED (R7). -/
theorem afterDates_of_reached (he : e.state = .waiting) (hp : ¬ e.body.Past today) (hf : ¬ e.body.Early today) :
    e.afterDates clear today now = .armed := by
  have hb : e.body.beforeFrom today = false := Bool.eq_false_iff.mpr fun h => hf (beforeFrom_iff.mp h)
  rw [Entry.afterDates, afterExpiry_of_kept (by rw [he]; rfl) hp]
  exact if_pos ⟨he, hb⟩

/-- Any other entry without a claim stands, unless it is past its valid-until. -/
theorem afterDates_of_kept (he : e.state.isActive = false) (hp : ¬ e.body.Past today)
    (hw : e.state ≠ .waiting ∨ e.body.Early today) : e.afterDates clear today now = e.state := by
  rw [Entry.afterDates, afterExpiry_of_kept he hp]
  refine if_neg fun ⟨hs, hb⟩ => ?_
  obtain hw | hw := hw
  · exact hw hs
  · rw [beforeFrom_iff.mpr hw] at hb; cases hb

end

/-! ## The calendar's day work (R53, R54) -/

theorem lookupClass_eq_classOn (records : List ExceptionRecord) (d : Date) : lookupClass records d = classOn records d := by
  unfold lookupClass lookupRecord classOn
  cases records.find? fun r => !r.span.isAnnual && r.span.covers d <;>
    cases records.find? fun r => r.span.isAnnual && r.span.covers d <;> rfl

theorem keptOn_eq_not_lapsed (r : ExceptionRecord) (d : Date) : r.keptOn d = !r.lapsed d := by
  unfold ExceptionRecord.keptOn ExceptionRecord.lapsed
  cases r.span with
  | dated first last => by_cases h : d.key ≤ last.key <;> simp [h, Nat.not_lt.mpr, Nat.lt_of_not_le]
  | annual => rfl

/-- The day work either leaves the list or removes the lapsed records, with LAPSED. -/
theorem calendarDayWork_cases (s : State) :
    (s.calendarDayWork = s.recomputeToday ∧
      (s.time.validity = .valid → ∀ r ∈ s.calendar.records, r.keptOn s.today = true)) ∨
    (s.time.validity = .valid ∧ s.calendarDayWork = (s.recomputeToday.setCalendar { s.recomputeToday.calendar with
      records := s.calendar.records.filter fun r => r.keptOn s.today }).raiseCalendar .lapsed) := by
  unfold State.calendarDayWork State.lapse
  have htoday : s.recomputeToday.today = s.today := rfl
  have hvalid : s.recomputeToday.timeValid = s.timeValid := rfl
  have hrec : s.recomputeToday.calendar.records = s.calendar.records := rfl
  simp only [htoday, hvalid, hrec, keptOn_eq_not_lapsed]
  split
  · next h =>
    simp only [State.timeValid, Bool.and_eq_true, beq_iff_eq] at h
    exact .inr ⟨h.1, rfl⟩
  · next h =>
    refine .inl ⟨rfl, fun hv r hr => ?_⟩
    simp only [State.timeValid, hv, beq_self_eq_true, Bool.true_and, List.any_eq_true, not_exists, not_and] at h
    simpa using h r hr

theorem calendarDayWork_table (s : State) : s.calendarDayWork.table = s.table := by
  obtain ⟨h, -⟩ | ⟨-, h⟩ := calendarDayWork_cases s <;> rw [h] <;> rfl

theorem calendarDayWork_slot (s : State) (i : SlotNo) : s.calendarDayWork.slot i = s.slot i := by
  simp only [State.slot, calendarDayWork_table]

theorem calendarDayWork_chan (s : State) (c : Chan) : s.calendarDayWork.chan c = s.chan c := by
  obtain ⟨h, -⟩ | ⟨-, h⟩ := calendarDayWork_cases s <;> rw [h] <;> rfl

theorem calendarDayWork_freeCount (s : State) : s.calendarDayWork.freeCount = s.freeCount := by
  obtain ⟨h, -⟩ | ⟨-, h⟩ := calendarDayWork_cases s <;> rw [h] <;> rfl

/-- The day work does what R53 and R54 ask of it. -/
theorem calendarDayWork_done (s : State) : s.DayWorkDone s.calendarDayWork := by
  have hcls : s.recomputeToday.calendar.todayClass =
      if s.time.validity = .unset then .normal else classOn s.calendar.records s.today := by
    rw [← lookupClass_eq_classOn]; rfl
  obtain ⟨h, hkept⟩ | ⟨hv, h⟩ := calendarDayWork_cases s
  · refine ⟨by rw [h, hcls], ?_, fun hv hr => ?_⟩
    · rw [h]
      split
      · next hv => exact (List.filter_eq_self.mpr (hkept hv)).symm
      · rfl
    · obtain ⟨r, hr, hn⟩ := hr
      simp [hkept hv r hr] at hn
  · rw [h]
    exact ⟨hcls, by rw [if_pos hv]; rfl, fun _ _ => raise_reports _ _ _ (by decide)⟩

/-- The day work done stays done while the calendar stands and reasons are only added. -/
theorem State.DayWorkDone.congr {s s' t t' : State} (h : s.DayWorkDone t) (hc : s'.calendar = s.calendar) (ht : s'.time = s.time)
    (hc' : t'.calendar = t.calendar) (hr : t.Reports .calendar 0 1 → t'.Reports .calendar 0 1) : s'.DayWorkDone t' := by
  have htoday : s'.today = s.today := by simp only [State.today, ht]
  refine ⟨?_, ?_, fun hv hx => hr (h.lapsed ?_ ?_)⟩
  · rw [hc', h.cls, hc, ht, htoday]
  · rw [hc', h.records, hc, ht, htoday]
  · rw [← ht]; exact hv
  · rw [← hc, ← htoday]; exact hx

end Sys2Proof.Machine
end

/-! MINUTE_EVALUATION (R32 to R35): the claim-end stage, the day rollover and the start stage at an entry alone in the table. -/

section
namespace Sys2Proof.Machine

/-! ## The stages of a minute -/

/-- The state after the day-rollover stage (R33). -/
def State.rolledOver (s : State) : State := if s.time.time.tod == ⟨0, 0⟩ then s.dayRollover else s

/-- The state after the start stage (R34, R35). -/
def State.startStage (s : State) : State := if s.timeValid then s.forEach allSlots State.startSlot else s

theorem minuteEvaluation_eq (s : State) :
    s.minuteEvaluation = (s.forEach allSlots State.tickSlot).rolledOver.startStage := by
  unfold State.minuteEvaluation State.rolledOver State.startStage
  rfl

/-- 00:00 of a VALID time, when the day rollover tests the dates (R33). -/
abbrev State.Midnight (s : State) : Prop := s.time.validity = .valid ∧ s.time.time.tod = ⟨0, 0⟩

/-- The class of today as the start stage finds it: at 00:00 it has been looked up anew (R33, R53). -/
def State.classNow (s : State) : DayClass :=
  if s.time.time.tod = ⟨0, 0⟩ then classOn s.calendar.records s.today else s.calendar.todayClass

theorem rolledOver_eq (s : State) : s.rolledOver = if s.time.time.tod = ⟨0, 0⟩ then s.dayRollover else s := by
  simp only [State.rolledOver, beq_iff_eq]

theorem startStage_eq (s : State) :
    s.startStage = if s.time.validity = .valid then s.forEach allSlots State.startSlot else s := by
  simp only [State.startStage, State.timeValid, beq_iff_eq]

theorem rolledOver_of_other {s : State} (h : s.time.time.tod ≠ ⟨0, 0⟩) : s.rolledOver = s := by
  rw [rolledOver_eq, if_neg h]

theorem rolledOver_of_rollover {s : State} (h : s.time.time.tod = ⟨0, 0⟩) : s.rolledOver =
    if s.time.validity = .valid then (s.calendarDayWork.expiryTest false).arming else s.calendarDayWork := by
  rw [rolledOver_eq, if_pos h]
  simp only [State.dayRollover, State.timeValid, beq_iff_eq, (calendarDayWork_same s).time]

theorem startStage_of_invalid {s : State} (h : s.time.validity ≠ .valid) : s.startStage = s := by
  rw [startStage_eq, if_neg h]

theorem startStage_of_valid {s : State} (h : s.time.validity = .valid) :
    s.startStage = s.forEach allSlots State.startSlot := by
  rw [startStage_eq, if_pos h]

/-! ## What the stages leave alone -/

theorem startStage_calendar (s : State) : s.startStage.calendar = s.calendar := by
  by_cases h : s.time.validity = .valid
  · rw [startStage_of_valid h, startSlot_stage.forEach_calendar]
  · rw [startStage_of_invalid h]

theorem startStage_reports (s : State) {k : ChangeKind} {n b : Nat} (h : s.Reports k n b) : s.startStage.Reports k n b := by
  by_cases hv : s.time.validity = .valid
  · rw [startStage_of_valid hv]; exact startSlot_stage.forEach_reports s _ h
  · rw [startStage_of_invalid hv]; exact h

theorem expiryTest_arming_calendar (s : State) (clear : Bool) : (s.expiryTest clear).arming.calendar = s.calendar :=
  (armSlot_stage.forEach_calendar _ _).trans ((expireSlot_stage clear).forEach_calendar s _)

theorem expiryTest_arming_reports (s : State) (clear : Bool) {k : ChangeKind} {n b : Nat} (h : s.Reports k n b) :
    (s.expiryTest clear).arming.Reports k n b :=
  armSlot_stage.forEach_reports _ _ ((expireSlot_stage clear).forEach_reports s _ h)

/-- At 00:00 the rollover does the calendar's day work (R33, R53, R54). -/
theorem rolledOver_dayWork {s : State} (h : s.time.time.tod = ⟨0, 0⟩) : s.DayWorkDone s.rolledOver := by
  have hdone := calendarDayWork_done s
  rw [rolledOver_of_rollover h]
  split
  · exact hdone.congr rfl rfl (expiryTest_arming_calendar _ _) fun hr => expiryTest_arming_reports _ _ hr
  · exact hdone

/-- While time is not VALID the rollover and the start stage change no slot. -/
theorem rolledOver_startStage_slot {s : State} (h : s.time.validity ≠ .valid) (i : SlotNo) :
    s.rolledOver.startStage.slot i = s.slot i := by
  by_cases ht : s.time.time.tod = ⟨0, 0⟩
  · rw [rolledOver_of_rollover ht, if_neg h, startStage_of_invalid (by rwa [(calendarDayWork_same s).time]),
      calendarDayWork_slot]
  · rw [rolledOver_of_other ht, startStage_of_invalid h]

/-- The claim-end stage leaves the slot of an entry that is not ACTIVE. -/
theorem tick_slot_of_not_active {s : State} {i : SlotNo} (h : ((s.slot i).entry.any fun e => e.state.isActive) = false) :
    (s.forEach allSlots State.tickSlot).slot i = s.slot i := by
  refine tickSlot_stage.forEach_slot s _ i fun t ht => ?_
  cases he : (s.slot i).entry with
  | none => exact tickSlot_of_free (by rw [ht, he])
  | some e =>
    rw [he] at h
    exact tickSlot_of_not_active (ht.trans (slot_of_entry he)) h

/-! ## A start that is offered -/

theorem startOffered_congr {s t : State} (h : s.SameElsewhere t) {e : Entry} {cls : DayClass} :
    t.StartOffered e cls ↔ s.StartOffered e cls := by
  simp only [State.StartOffered, State.LightDoubted, State.today, State.now, h.time, h.light, h.supply]

section
variable {s : State} {i : SlotNo} {gen : Byte} {e : Entry}

/-- A start that is not offered, or that the entry's state or count does not allow, leaves the state. -/
theorem startStage_stands (hi : s.slot i = ⟨gen, some e⟩) (ho : s.OthersFree i)
    (h : ¬ (e.offered = true ∧ s.StartOffered e s.calendar.todayClass)) : s.startStage = s := by
  by_cases hv : s.time.validity = .valid
  · have hn : ¬ s.startsNow e = true := fun hs => h (startsNow_iff.mp ⟨hv, hs⟩)
    rw [startStage_of_valid hv, startSlot_stage.forEach_alone ho, startSlot_of_entry hi, if_neg hn]
  · exact startStage_of_invalid hv

theorem startStage_starts (hi : s.slot i = ⟨gen, some e⟩) (ho : s.OthersFree i) (he : e.offered = true)
    (h : s.StartOffered e s.calendar.todayClass) : s.startStage = s.start i none := by
  obtain ⟨hv, hs⟩ := startsNow_iff.mpr ⟨he, h⟩
  rw [startStage_of_valid hv, startSlot_stage.forEach_alone ho, startSlot_of_entry hi, if_pos hs]

end

/-! ## The rollover at an entry alone -/

/-- The state in which the rollover leaves an entry. -/
def State.rolledState (s : State) (e : Entry) : EntryState := if s.Midnight then e.afterDates false s.today s.now else e.state

/-- What the rollover leaves of a table that holds the entry `e`: its slot, and everything that the start stage looks at. -/
structure State.RolledTo (s : State) (i : SlotNo) (gen : Byte) (e : Entry) (z : State) : Prop where
  slot : z.slot i = ⟨gen, some { e with state := s.rolledState e }⟩
  others : z.OthersFree i
  same : s.SameElsewhere z
  chan : ∀ c, z.chan c = s.chan c
  freeCount : z.freeCount = s.freeCount
  cls : s.time.validity = .valid → z.calendar.todayClass = s.classNow

section
variable {s : State} {i : SlotNo} {gen : Byte} {e : Entry}

theorem othersFree_calendarDayWork (ho : s.OthersFree i) : s.calendarDayWork.OthersFree i := fun j hj => by
  rw [calendarDayWork_slot]; exact ho j hj

theorem calendarDayWork_today (s : State) : s.calendarDayWork.today = s.today := by
  simp only [State.today, (calendarDayWork_same s).time]

theorem calendarDayWork_now (s : State) : s.calendarDayWork.now = s.now := by
  simp only [State.now, (calendarDayWork_same s).time]

theorem rolledOver_of_midnight (ho : s.OthersFree i) (hm : s.Midnight) : s.rolledOver = s.calendarDayWork.dateTests false i := by
  rw [rolledOver_of_rollover hm.2, if_pos hm.1, expiryTest_arming_alone false (othersFree_calendarDayWork ho)]

theorem rolledOver_rolledTo (hi : s.slot i = ⟨gen, some e⟩) (ho : s.OthersFree i) : s.RolledTo i gen e s.rolledOver := by
  have hwork : s.calendarDayWork.slot i = ⟨gen, some e⟩ := (calendarDayWork_slot s i).trans hi
  by_cases ht : s.time.time.tod = ⟨0, 0⟩
  · by_cases hv : s.time.validity = .valid
    · have htouch := dateTests_touches false hwork
      rw [rolledOver_of_midnight ho ⟨hv, ht⟩]
      refine ⟨?_, htouch.othersFree (othersFree_calendarDayWork ho), (calendarDayWork_same s).trans htouch.same,
        fun c => (htouch.others c id).trans (calendarDayWork_chan s c),
        (dateTests_freeCount false hwork).trans (calendarDayWork_freeCount s), fun _ => ?_⟩
      · rw [dateTests_slot false hwork, calendarDayWork_today, calendarDayWork_now, State.rolledState, if_pos ⟨hv, ht⟩]
      · rw [htouch.calendar, (calendarDayWork_done s).cls, State.classNow, if_pos ht, hv]; rfl
    · rw [rolledOver_of_rollover ht, if_neg hv]
      refine ⟨?_, othersFree_calendarDayWork ho, calendarDayWork_same s, calendarDayWork_chan s, calendarDayWork_freeCount s,
        fun h => absurd h hv⟩
      rw [hwork, State.rolledState, if_neg fun hm => hv hm.1]
  · rw [rolledOver_of_other ht]
    refine ⟨?_, ho, .refl s, fun _ => rfl, rfl, fun _ => ?_⟩
    · rw [hi, State.rolledState, if_neg fun hm => ht hm.2]
    · rw [State.classNow, if_neg ht]

theorem State.RolledTo.now {z : State} (h : s.RolledTo i gen e z) : z.now = s.now := by simp only [State.now, h.same.time]

/-- The rollover does not change whether a start is offered. -/
theorem State.RolledTo.startOffered_iff {z : State} (h : s.RolledTo i gen e z) :
    z.StartOffered e z.calendar.todayClass ↔ s.StartOffered e s.classNow := by
  rw [startOffered_congr h.same]
  by_cases hv : s.time.validity = .valid
  · rw [h.cls hv]
  · exact iff_of_false (fun ho => hv ho.1) fun ho => hv ho.1

/-! ### The state after it -/

theorem rolledState_of_expired (he : e.state = .waiting ∨ e.state = .armed ∨ e.state = .suspended)
    (hx : s.Midnight ∧ e.body.Past s.today) : s.rolledState e = .ended .expired s.now := by
  rw [State.rolledState, if_pos hx.1, afterDates_of_past he hx.2]

theorem rolledState_of_marked {k : ClaimState} {m : Bool} (he : e.state = .active k m)
    (hx : s.Midnight ∧ e.body.Past s.today) : s.rolledState e = .active k true := by
  rw [State.rolledState, if_pos hx.1, afterDates_of_active he, pastUntil_iff.mpr hx.2, Bool.true_or]

theorem rolledState_of_active {k : ClaimState} {m : Bool} (he : e.state = .active k m)
    (hx : ¬ (s.Midnight ∧ e.body.Past s.today)) : s.rolledState e = .active k m := by
  rw [State.rolledState]
  split
  · next hm =>
    have hp : e.body.pastUntil s.today = false := Bool.eq_false_iff.mpr fun h => hx ⟨hm, pastUntil_iff.mp h⟩
    simp [afterDates_of_active he, hp]
  · exact he

theorem rolledState_of_ended (he : e.state.isEnded = true) : s.rolledState e = e.state := by
  rw [State.rolledState]
  split
  · exact afterDates_of_ended he
  · rfl

theorem rolledState_of_reached (he : e.state = .waiting) (hm : s.Midnight) (hx : ¬ (s.Midnight ∧ e.body.Past s.today))
    (hf : ¬ e.body.Early s.today) : s.rolledState e = .armed := by
  rw [State.rolledState, if_pos hm, afterDates_of_reached he (fun h => hx ⟨hm, h⟩) hf]

theorem rolledState_of_kept (he : e.state.isActive = false) (hx : ¬ (s.Midnight ∧ e.body.Past s.today))
    (hw : e.state ≠ .waiting ∨ ¬ (s.Midnight ∧ ¬ e.body.Early s.today)) : s.rolledState e = e.state := by
  rw [State.rolledState]
  split
  · next hm =>
    refine afterDates_of_kept he (fun h => hx ⟨hm, h⟩) (hw.imp_right fun h => ?_)
    by_contra hf
    exact h ⟨hm, hf⟩
  · rfl

/-! ## The rollover and the start stage at an entry alone -/

/-- The state at the end of a minute, from the end of the claim-end stage. -/
def State.finished (s : State) : State := s.rolledOver.startStage

theorem offered_of_ended {x : EntryState} (hx : x.isEnded = true) : ({ e with state := x } : Entry).offered = false := by
  cases x with
  | ended => rfl
  | _ => cases hx

/-- Without a start the minute leaves the entry in its rolled state, and every channel and the pool as they were. -/
theorem finished_of_not_started (hi : s.slot i = ⟨gen, some e⟩) (ho : s.OthersFree i)
    (h : ¬ (({ e with state := s.rolledState e } : Entry).offered = true ∧ s.StartOffered e s.classNow)) :
    s.finished.slot i = ⟨gen, some { e with state := s.rolledState e }⟩ ∧ (∀ c, s.finished.chan c = s.chan c) ∧
      s.finished.freeCount = s.freeCount := by
  have hr := rolledOver_rolledTo hi ho
  have hz : s.finished = s.rolledOver :=
    startStage_stands hr.slot hr.others fun ⟨hf, hs⟩ => h ⟨hf, hr.startOffered_iff.mp hs⟩
  rw [hz]
  exact ⟨hr.slot, hr.chan, hr.freeCount⟩

/-- The state just before the start that a minute offers. -/
theorem finished_of_started (hi : s.slot i = ⟨gen, some e⟩) (ho : s.OthersFree i)
    (hf : ({ e with state := s.rolledState e } : Entry).offered = true) (hs : s.StartOffered e s.classNow) :
    s.finished = s.rolledOver.start i none :=
  have hr := rolledOver_rolledTo hi ho
  startStage_starts hr.slot hr.others hf (hr.startOffered_iff.mpr hs)

/-- An entry that is ARMED by the start stage starts, its claims placed and its pool records drawn (R34). -/
theorem finished_of_armed (hi : s.slot i = ⟨gen, some e⟩) (ho : s.OthersFree i) (ha : s.rolledState e = .armed)
    (hs : s.StartOffered e s.classNow) (hf : setSize e.body.channels ≤ s.freeCount) :
    s.finished.slot i = ⟨gen, some (e.started s.now none false)⟩ ∧
      s.finished.freeCount = s.freeCount - setSize e.body.channels ∧
      ∀ c ∈ channelsOf e.body.channels, e.body.claim i gen s.now ∈ (s.finished.chan c).claims := by
  have hr := rolledOver_rolledTo hi ho
  have hslot : s.rolledOver.slot i = ⟨gen, some { e with state := .armed }⟩ := ha ▸ hr.slot
  have hfree : setSize ({ e with state := .armed } : Entry).body.channels ≤ s.rolledOver.freeCount := hr.freeCount ▸ hf
  rw [finished_of_started hi ho (by rw [ha]; rfl) hs, ← hr.now, ← hr.freeCount]
  exact ⟨start_armed_slot hslot rfl hfree none, start_armed_freeCount hslot rfl hfree none,
    fun c hc => start_armed_placed hslot rfl hfree none hc⟩

/-- An entry that is ARMED by the start stage is MISSED for want of pool records (R10). -/
theorem finished_of_missed (hi : s.slot i = ⟨gen, some e⟩) (ho : s.OthersFree i) (ha : s.rolledState e = .armed)
    (hs : s.StartOffered e s.classNow) (hf : s.freeCount < setSize e.body.channels) :
    s.finished.slot i = ⟨gen, some { e with state := .armed, missed := min 255 (e.missed + 1) }⟩ ∧
      s.finished.Reports .entry i.val 6 ∧ ∀ c, s.finished.chan c = s.chan c := by
  have hr := rolledOver_rolledTo hi ho
  have hslot : s.rolledOver.slot i = ⟨gen, some { e with state := .armed }⟩ := ha ▸ hr.slot
  rw [finished_of_started hi ho (by rw [ha]; rfl) hs, start_of_missed hslot rfl (hr.freeCount ▸ hf)]
  refine ⟨?_, raise_reports _ _ _ (by decide), hr.chan⟩
  rw [State.raiseEntry_slot, slot_setEntry_self, hslot]

/-- An ACTIVE entry whose count allows it restarts (R34, R66). -/
theorem finished_of_restarted {k : ClaimState} {m : Bool} (hi : s.slot i = ⟨gen, some e⟩) (ho : s.OthersFree i)
    (ha : s.rolledState e = .active k m) (hs : s.StartOffered e s.classNow) (hn : e.body.count ≠ some 0) :
    s.finished.slot i = ⟨gen, some (e.started s.now none m)⟩ ∧ s.finished.freeCount = s.freeCount := by
  have hr := rolledOver_rolledTo hi ho
  have hslot : s.rolledOver.slot i = ⟨gen, some { e with state := .active k m }⟩ := ha ▸ hr.slot
  rw [finished_of_started hi ho (by rw [ha]; simpa [Entry.offered] using hn) hs, ← hr.now, ← hr.freeCount]
  exact ⟨start_active_slot hslot rfl hn none, start_active_freeCount hslot rfl hn none⟩

/-- An entry without a claim that the rollover finds past its valid-until: its place in the ENDED order and its reason. -/
theorem finished_of_expired (hi : s.slot i = ⟨gen, some e⟩) (ho : s.OthersFree i)
    (he : e.state = .waiting ∨ e.state = .armed ∨ e.state = .suspended) (hx : s.Midnight ∧ e.body.Past s.today) :
    s.finished.slot i = ⟨gen, some { e with state := .ended .expired s.now }⟩ ∧ i ∈ s.finished.table.endedOrder ∧
      s.finished.Reports .entry i.val 5 := by
  have hst := rolledState_of_expired he hx
  have hr := rolledOver_rolledTo hi ho
  have hno : ({ e with state := s.rolledState e } : Entry).offered = false := offered_of_ended (by rw [hst]; rfl)
  have hz : s.finished = s.rolledOver := startStage_stands hr.slot hr.others fun h => by simp [hno] at h
  have hslot := hr.slot
  rw [hst] at hslot
  rw [hz]
  refine ⟨hslot, ?_⟩
  rw [rolledOver_of_midnight ho hx.1]
  exact dateTests_of_past false ((calendarDayWork_slot s i).trans hi) he (by rw [calendarDayWork_today]; exact hx.2)

end

/-! ## The claim-end stage at an entry alone -/

section
variable {s : State} {i : SlotNo} {gen : Byte} {e : Entry} {k : ClaimState} {m : Bool}

theorem State.Alone.othersFree (h : s.Alone i gen e) : s.OthersFree i := h.2

theorem minuteEvaluation_alone (h : s.Alone i gen e) : s.minuteEvaluation = (s.tickSlot i).finished := by
  rw [minuteEvaluation_eq, tickSlot_stage.forEach_alone h.othersFree]
  rfl

theorem tickSlot_of_due (hi : s.slot i = ⟨gen, some e⟩) (he : e.state = .active k m) (hd : s.EndDue k) :
    (s.tickSlot i).slot i = ⟨gen, some { e with state := e.afterEnd m s.now }⟩ ∧
      (s.tickSlot i).freeCount = s.freeCount + setSize e.body.channels ∧ (s.tickSlot i).NoClaims i e.body.channels := by
  have hc := counted_slot hi k m
  rw [tickSlot_of_active hi he, if_pos (endDue_lowered_iff.mpr hd)]
  have hslot := endClaim_slot hc rfl
  have hpool := endClaim_freeCount hc rfl
  have hnone := endClaim_noClaims hc rfl
  exact ⟨hslot, hpool, hnone⟩

theorem tickSlot_of_not_due (hi : s.slot i = ⟨gen, some e⟩) (he : e.state = .active k m) (hd : ¬ s.EndDue k) :
    s.tickSlot i = s.counted i e k m := by
  rw [tickSlot_of_active hi he, if_neg fun h => hd (endDue_lowered_iff.mp h)]

theorem afterEnd_isEnded {now : CalMinute} (h : e.body.count = some 0 ∨ m = true) : (e.afterEnd m now).isEnded = true := by
  unfold Entry.afterEnd
  split
  · rfl
  · next hc => rw [if_pos (h.resolve_left hc)]; rfl

theorem afterEnd_of_armed {now : CalMinute} (hc : e.body.count ≠ some 0) (hm : m = false) : e.afterEnd m now = .armed := by
  simp [Entry.afterEnd, hc, hm]

/-- What a stage that touches one slot leaves of the questions asked later in the minute. -/
theorem State.Touches.startOffered_iff {C : Chan → Prop} {t : State} (h : s.Touches i C t) {x : Entry} :
    t.StartOffered x t.classNow ↔ s.StartOffered x s.classNow := by
  rw [startOffered_congr h.same]
  simp only [State.classNow, h.calendar, h.same.time, h.today]

theorem State.Touches.midnight_iff {C : Chan → Prop} {t : State} (h : s.Touches i C t) : t.Midnight ↔ s.Midnight := by
  simp only [State.Midnight, h.same.time]

theorem Entry.not_past_of_offered (h : s.StartOffered e s.classNow) : ¬ e.body.Past s.today := h.2.2.2.1

/-! ### An entry whose claim end is due -/

/-- The table after the claim end, as the rest of the minute finds it. -/
theorem minute_of_due_stands (h : s.Alone i gen e) (he : e.state = .active k m) (hd : s.EndDue k)
    (hn : e.body.count = some 0 ∨ m = true ∨ ¬ s.StartOffered e s.classNow) :
    s.minuteEvaluation.slot i = ⟨gen, some { e with
      state := (s.tickSlot i).rolledState { e with state := e.afterEnd m s.now } }⟩ ∧
      s.minuteEvaluation.NoClaims i e.body.channels ∧
      s.minuteEvaluation.freeCount = s.freeCount + setSize e.body.channels := by
  obtain ⟨hslot, hpool, hnone⟩ := tickSlot_of_due h.1 he hd
  have ht := tickSlot_touches h.1
  have hstop : ¬ (({ e with state := (s.tickSlot i).rolledState { e with state := e.afterEnd m s.now } } : Entry).offered = true ∧
      (s.tickSlot i).StartOffered { e with state := e.afterEnd m s.now } (s.tickSlot i).classNow) := by
    rintro ⟨ho, hs⟩
    have hend : ¬ (e.body.count = some 0 ∨ m = true) := fun hx => by
      have hno := afterEnd_isEnded (now := s.now) hx
      rw [rolledState_of_ended (e := { e with state := e.afterEnd m s.now }) hno] at ho
      simp [offered_of_ended (e := e) hno] at ho
    exact hn.elim (fun hc => hend (.inl hc)) fun hx => hx.elim (fun hm => hend (.inr hm)) fun hx => hx (ht.startOffered_iff.mp hs)
  obtain ⟨hs, hc, hf⟩ := finished_of_not_started hslot (ht.othersFree h.othersFree) hstop
  rw [minuteEvaluation_alone h]
  exact ⟨hs, fun c hx y hy => hnone c hx y (hc c ▸ hy), hf.trans hpool⟩

theorem minute_of_due_ended (h : s.Alone i gen e) (he : e.state = .active k m) (hd : s.EndDue k)
    (hn : e.body.count = some 0 ∨ m = true) :
    s.minuteEvaluation.slot i = ⟨gen, some { e with state := e.afterEnd m s.now }⟩ := by
  have hs := (minute_of_due_stands h he hd (hn.elim .inl fun hm => .inr (.inl hm))).1
  rwa [rolledState_of_ended (e := { e with state := e.afterEnd m s.now }) (afterEnd_isEnded hn)] at hs

/-- An entry back to ARMED at the end of its claim, and past its valid-until, ends with EXPIRED (R8, R33). -/
theorem minute_of_due_expired (h : s.Alone i gen e) (he : e.state = .active k m) (hd : s.EndDue k) (hc : e.body.count ≠ some 0)
    (hm : m = false) (hx : s.Midnight ∧ e.body.Past s.today) :
    s.minuteEvaluation.slot i = ⟨gen, some { e with state := .ended .expired s.now }⟩ := by
  have ht := tickSlot_touches h.1
  have hs := (tickSlot_of_due h.1 he hd).1
  rw [afterEnd_of_armed hc hm] at hs
  have hfin := finished_of_expired hs (ht.othersFree h.othersFree) (.inr (.inl rfl))
    ⟨ht.midnight_iff.mpr hx.1, by rw [ht.today]; exact hx.2⟩
  rw [minuteEvaluation_alone h, hfin.1, ht.now]

/-- An entry back to ARMED at the end of its claim, and not past its valid-until, is ARMED at the start stage. -/
theorem rolledState_of_due_armed (h : s.Alone i gen e) (hx : ¬ (s.Midnight ∧ e.body.Past s.today)) :
    (s.tickSlot i).rolledState { e with state := .armed } = .armed := by
  have ht := tickSlot_touches h.1
  refine rolledState_of_kept rfl (fun hp => hx ⟨ht.midnight_iff.mp hp.1, ?_⟩) (.inl (by simp))
  rw [← ht.today]
  exact hp.2

theorem minute_of_due_armed (h : s.Alone i gen e) (he : e.state = .active k m) (hd : s.EndDue k) (hc : e.body.count ≠ some 0)
    (hm : m = false) (hx : ¬ (s.Midnight ∧ e.body.Past s.today)) (hn : ¬ s.StartOffered e s.classNow) :
    s.minuteEvaluation.slot i = ⟨gen, some { e with state := .armed }⟩ := by
  have hs := (minute_of_due_stands h he hd (.inr (.inr hn))).1
  rwa [afterEnd_of_armed hc hm, rolledState_of_due_armed h hx] at hs

/-- An entry back to ARMED at the end of its claim starts again when a start is offered: its records are free. -/
theorem minute_of_due_started (h : s.Alone i gen e) (he : e.state = .active k m) (hd : s.EndDue k) (hc : e.body.count ≠ some 0)
    (hm : m = false) (hs : s.StartOffered e s.classNow) :
    s.minuteEvaluation.slot i = ⟨gen, some (e.started s.now none false)⟩ ∧
      ∀ c ∈ channelsOf e.body.channels, e.body.claim i gen s.now ∈ (s.minuteEvaluation.chan c).claims := by
  have ht := tickSlot_touches h.1
  obtain ⟨hslot, hpool, -⟩ := tickSlot_of_due h.1 he hd
  rw [afterEnd_of_armed hc hm] at hslot
  have hrolled := rolledState_of_due_armed h fun hx => Entry.not_past_of_offered hs hx.2
  obtain ⟨hfin, -, hplaced⟩ := finished_of_armed hslot (ht.othersFree h.othersFree) hrolled (ht.startOffered_iff.mpr hs)
    (hpool ▸ Nat.le_add_left ..)
  rw [ht.now] at hfin hplaced
  rw [minuteEvaluation_alone h]
  exact ⟨hfin, hplaced⟩

/-! ### An entry whose claim counts down -/

theorem counted_touches (s : State) (i : SlotNo) {C : Chan → Prop} (e : Entry) (k : ClaimState) (m : Bool) :
    s.Touches i C (s.counted i e k m) := setEntry_touches s i _

/-- The rolled state of an ACTIVE entry that has counted down: the mark is set at 00:00 past its valid-until (R8). -/
theorem minute_of_counting (h : s.Alone i gen e) (he : e.state = .active k m) (hd : ¬ s.EndDue k) {m' : Bool}
    (hm : (s.counted i e k m).rolledState { e with state := .active k.lowered m } = .active k.lowered m')
    (hn : ¬ s.StartOffered e s.classNow ∨ e.body.count = some 0) :
    s.minuteEvaluation.slot i = ⟨gen, some { e with state := .active k.lowered m' }⟩ ∧
      ∀ c, (s.minuteEvaluation.chan c).claims = (s.chan c).claims := by
  have ht : s.Touches i (fun _ => False) (s.counted i e k m) := counted_touches s i e k m
  have hfin := finished_of_not_started (counted_slot h.1 k m) (ht.othersFree h.othersFree) fun ⟨ho, hs⟩ => by
    rw [hm] at ho
    exact hn.elim (fun hx => hx (ht.startOffered_iff.mp hs)) fun hc => by simp [Entry.offered, hc] at ho
  rw [hm] at hfin
  rw [minuteEvaluation_alone h, tickSlot_of_not_due h.1 he hd]
  exact ⟨hfin.1, fun c => congrArg Channel.claims (hfin.2.1 c)⟩

theorem rolledState_of_counting (s : State) (i : SlotNo) (hx : ¬ (s.Midnight ∧ e.body.Past s.today)) :
    (s.counted i e k m).rolledState { e with state := .active k.lowered m } = .active k.lowered m :=
  rolledState_of_active rfl fun hp => hx hp

theorem minute_of_counting_started (h : s.Alone i gen e) (he : e.state = .active k m) (hd : ¬ s.EndDue k)
    (hs : s.StartOffered e s.classNow) (hc : e.body.count ≠ some 0) :
    s.minuteEvaluation.slot i = ⟨gen, some (e.started s.now none m)⟩ ∧ s.minuteEvaluation.freeCount = s.freeCount := by
  have ht : s.Touches i (fun _ => False) (s.counted i e k m) := counted_touches s i e k m
  have hrolled := rolledState_of_counting (e := e) (k := k) (m := m) s i fun hx => Entry.not_past_of_offered hs hx.2
  rw [minuteEvaluation_alone h, tickSlot_of_not_due h.1 he hd]
  have hfin := finished_of_restarted (counted_slot h.1 k m) (ht.othersFree h.othersFree) hrolled (ht.startOffered_iff.mpr hs) hc
  exact hfin

/-! ### An entry without a claim -/

theorem minuteEvaluation_of_not_active (h : s.Alone i gen e) (he : e.state.isActive = false) :
    s.minuteEvaluation = s.finished := by
  rw [minuteEvaluation_alone h, tickSlot_of_not_active h.1 he]

theorem isActive_of_cases (he : e.state = .waiting ∨ e.state = .armed ∨ e.state = .suspended) : e.state.isActive = false := by
  obtain he | he | he := he <;> rw [he] <;> rfl

theorem isActive_of_armed {p : Prop} (he : e.state = .armed ∨ (e.state = .waiting ∧ p)) : e.state.isActive = false := by
  obtain he | ⟨he, -⟩ := he <;> rw [he] <;> rfl

/-- A minute leaves an entry that the start stage cannot start in its rolled state. -/
theorem minute_of_idle (h : s.Alone i gen e) (he : e.state.isActive = false)
    (hn : ({ e with state := s.rolledState e } : Entry).offered = false ∨ ¬ s.StartOffered e s.classNow) :
    s.minuteEvaluation.slot i = ⟨gen, some { e with state := s.rolledState e }⟩ := by
  rw [minuteEvaluation_of_not_active h he]
  refine (finished_of_not_started h.1 h.othersFree fun ⟨ho, hs⟩ => ?_).1
  exact hn.elim (fun hx => by simp [hx] at ho) fun hx => hx hs

/-- An entry is ARMED at the start stage: it was, or it was WAITING and its valid-from is reached at 00:00 (R7). -/
theorem rolledState_of_armed (he : e.state = .armed ∨ (e.state = .waiting ∧ s.Midnight ∧ ¬ e.body.Early s.today))
    (hx : ¬ (s.Midnight ∧ e.body.Past s.today)) : s.rolledState e = .armed := by
  obtain he | ⟨he, hm, hf⟩ := he
  · rw [rolledState_of_kept (by rw [he]; rfl) hx (.inl (by simp [he])), he]
  · exact rolledState_of_reached he hm hx hf

end

/-! ## The obligation -/

/-- The state once the Schedule Table has taken the tick owed to it. -/
def State.ticked (s : State) : State := s.setTimeBase { s.time with tableTickOwed := false }

section
variable (s : State)

theorem ticked_slot (i : SlotNo) : s.ticked.slot i = s.slot i := rfl
theorem ticked_chan (c : Chan) : s.ticked.chan c = s.chan c := rfl
theorem ticked_freeCount : s.ticked.freeCount = s.freeCount := rfl
theorem ticked_calendar : s.ticked.calendar = s.calendar := rfl
theorem ticked_now : s.ticked.now = s.now := rfl
theorem ticked_today : s.ticked.today = s.today := rfl
theorem ticked_validity : s.ticked.time.validity = s.time.validity := rfl
theorem ticked_time : s.ticked.time.time = s.time.time := rfl
theorem ticked_light : s.ticked.light = s.light := rfl
theorem ticked_supply : s.ticked.supply = s.supply := rfl

theorem takeMinuteTick_of_owed {s : State} (h : s.time.tableTickOwed = true) (hr : s.supply.stopped = false) :
    s.takeMinuteTick = s.ticked.minuteEvaluation := by
  simp [State.takeMinuteTick, State.ticked, h, hr]

theorem ticked_alone {i : SlotNo} {gen : Byte} {e : Entry} : s.ticked.Alone i gen e ↔ s.Alone i gen e := by
  simp only [State.Alone, ticked_slot]

theorem ticked_endDue {k : ClaimState} : s.ticked.EndDue k ↔ s.EndDue k := by
  simp only [State.EndDue, State.LightDoubted, ticked_now, ticked_light, ticked_supply]

theorem ticked_startOffered {e : Entry} : s.ticked.StartOffered e s.ticked.classNow ↔ s.StartOffered e s.classNow := by
  have hcls : s.ticked.classNow = s.classNow := rfl
  simp only [hcls, State.StartOffered, State.LightDoubted, ticked_now, ticked_today, ticked_validity, ticked_light, ticked_supply]

end

theorem takeMinuteTick_of_none {s : State} (h : s.time.tableTickOwed = false) : s.takeMinuteTick = s := by
  simp [State.takeMinuteTick, h]

/-- The calendar over a minute: its day work at 00:00, and nothing at any other minute (R33, R53, R54). -/
theorem minuteEvaluation_calendar (s : State) : (s.time.time.tod = ⟨0, 0⟩ → s.DayWorkDone s.minuteEvaluation) ∧
    (s.time.time.tod ≠ ⟨0, 0⟩ → s.minuteEvaluation.calendar = s.calendar) := by
  have htime := (tickSlot_stage.forEach_same s allSlots).time
  have hcal := tickSlot_stage.forEach_calendar s allSlots
  rw [minuteEvaluation_eq]
  constructor
  · intro h
    exact (rolledOver_dayWork (by rw [htime, h])).congr hcal.symm htime.symm (startStage_calendar _) (startStage_reports _)
  · intro h
    rw [startStage_calendar, rolledOver_of_other (by rwa [htime]), hcal]

theorem minuteEvaluation_slot_of_not_active {s : State} (hv : s.time.validity ≠ .valid) {i : SlotNo}
    (h : ((s.slot i).entry.any fun e => e.state.isActive) = false) : s.minuteEvaluation.slot i = s.slot i := by
  have htime := (tickSlot_stage.forEach_same s allSlots).time
  rw [minuteEvaluation_eq, rolledOver_startStage_slot (by rwa [htime]), tick_slot_of_not_active h]

/-- The clauses of the rules for an entry alone in the table, by its state at the tick. -/
theorem minuteEvaluation_clauses {s : State} {i : SlotNo} {gen : Byte} {e : Entry} (h : s.Alone i gen e) :
    let t := s.minuteEvaluation
    let expired := s.Midnight ∧ e.body.Past s.today
    let offered := s.StartOffered e s.classNow
    let at_ (st : EntryState) : Prop := t.slot i = ⟨gen, some { e with state := st }⟩
    let placed : Prop := ∀ c ∈ channelsOf e.body.channels, e.body.claim i gen s.now ∈ (t.chan c).claims
    (∀ k m, e.state = .active k m → s.EndDue k →
      (e.body.count = some 0 → at_ (.ended .spent s.now)) ∧
      (e.body.count ≠ some 0 → m = true ∨ expired → at_ (.ended .expired s.now)) ∧
      (e.body.count ≠ some 0 → m = false → ¬ expired → ¬ offered → at_ .armed) ∧
      (e.body.count = some 0 ∨ m = true ∨ ¬ offered →
        t.NoClaims i e.body.channels ∧ t.freeCount = s.freeCount + setSize e.body.channels) ∧
      (e.body.count ≠ some 0 → m = false → offered → t.slot i = ⟨gen, some (e.started s.now none false)⟩ ∧ placed)) ∧
    (∀ k m, e.state = .active k m → ¬ s.EndDue k →
      (expired → at_ (.active k.lowered true) ∧ ∀ c, (t.chan c).claims = (s.chan c).claims) ∧
      (¬ expired → ¬ offered ∨ e.body.count = some 0 →
        at_ (.active k.lowered m) ∧ ∀ c, (t.chan c).claims = (s.chan c).claims) ∧
      (offered → e.body.count ≠ some 0 →
        t.slot i = ⟨gen, some (e.started s.now none m)⟩ ∧ t.freeCount = s.freeCount)) ∧
    (e.state = .waiting ∨ e.state = .armed ∨ e.state = .suspended → expired →
      at_ (.ended .expired s.now) ∧ i ∈ t.table.endedOrder ∧ t.Reports .entry i.val 5) ∧
    (e.state = .armed ∨ (e.state = .waiting ∧ s.Midnight ∧ ¬ e.body.Early s.today) → ¬ expired →
      (¬ offered → at_ .armed) ∧
      (offered → setSize e.body.channels ≤ s.freeCount →
        t.slot i = ⟨gen, some (e.started s.now none false)⟩ ∧ t.freeCount = s.freeCount - setSize e.body.channels ∧ placed) ∧
      (offered → s.freeCount < setSize e.body.channels →
        t.slot i = ⟨gen, some { e with state := .armed, missed := min 255 (e.missed + 1) }⟩ ∧ t.Reports .entry i.val 6 ∧
          ∀ c, t.chan c = s.chan c)) ∧
    ((e.state = .waiting ∧ ¬ (s.Midnight ∧ ¬ e.body.Early s.today)) ∨ e.state = .suspended → ¬ expired → at_ e.state) ∧
    (e.state.isEnded = true → at_ e.state) := by
  refine ⟨fun k m he hd => ⟨fun hc => ?_, fun hc hx => ?_, fun hc hm => minute_of_due_armed h he hd hc hm,
      fun hn => (minute_of_due_stands h he hd hn).2, fun hc hm => minute_of_due_started h he hd hc hm⟩,
    fun k m he hd => ⟨fun hx => ?_, fun hx => minute_of_counting h he hd (rolledState_of_counting s i hx),
      minute_of_counting_started h he hd⟩,
    fun he hx => ?_, fun he hx => ⟨fun hn => ?_, fun hs hf => ?_, fun hs hf => ?_⟩, fun he hx => ?_, fun he => ?_⟩
  · have hslot := minute_of_due_ended h he hd (.inl hc)
    rwa [Entry.afterEnd, if_pos hc] at hslot
  · by_cases hm : m = true
    · have hslot := minute_of_due_ended h he hd (.inr hm)
      rwa [Entry.afterEnd, if_neg hc, if_pos hm] at hslot
    · exact minute_of_due_expired h he hd hc (by simpa using hm) (hx.resolve_left hm)
  · exact minute_of_counting h he hd (rolledState_of_marked rfl hx) (.inl fun hs => Entry.not_past_of_offered hs hx.2)
  · rw [minuteEvaluation_of_not_active h (isActive_of_cases he)]
    exact finished_of_expired h.1 h.othersFree he hx
  · have hslot := minute_of_idle h (isActive_of_armed he) (.inr hn)
    rwa [rolledState_of_armed he hx] at hslot
  · rw [minuteEvaluation_of_not_active h (isActive_of_armed he)]
    exact finished_of_armed h.1 h.othersFree (rolledState_of_armed he hx) hs hf
  · rw [minuteEvaluation_of_not_active h (isActive_of_armed he)]
    exact finished_of_missed h.1 h.othersFree (rolledState_of_armed he hx) hs hf
  · have hroll : s.rolledState e = e.state := by
      obtain ⟨he, hw⟩ | he := he
      · exact rolledState_of_kept (by rw [he]; rfl) hx (.inr hw)
      · exact rolledState_of_kept (by rw [he]; rfl) hx (.inl (by simp [he]))
    have hact : e.state.isActive = false := by obtain ⟨he, -⟩ | he := he <;> rw [he] <;> rfl
    have hslot := minute_of_idle h hact (.inl (by rw [hroll]; obtain ⟨he, -⟩ | he := he <;> simp [Entry.offered, he]))
    rwa [hroll] at hslot
  · have hroll := rolledState_of_ended (s := s) he
    have hslot := minute_of_idle h (isActive_of_isEnded he) (.inl (offered_of_ended (by rw [hroll]; exact he)))
    rwa [hroll] at hslot

/-- Settles O28: the stages by the pass lemmas, then an entry alone by the state it is in. -/
theorem minuteEvaluationStages : Obligations.MinuteEvaluationStages := by
  constructor
  · intro s dt
    have hexec : exec (.minuteEvaluation dt) s = .next (s.elapse dt).takeMinuteTick := rfl
    generalize exec (.minuteEvaluation dt) s = r at hexec ⊢
    generalize s.elapse dt = u at hexec ⊢
    subst hexec
    refine ⟨fun ho hr => ?_, fun ho => by rw [takeMinuteTick_of_none ho], fun ho hr => ?_⟩
    · simp only [takeMinuteTick_of_owed ho hr, minuteEvaluation_eq, startStage_eq, rolledOver_eq, State.ticked]
    · obtain ⟨hwork, hstands⟩ := minuteEvaluation_calendar u.ticked
      have hslot (i : SlotNo) := minuteEvaluation_slot_of_not_active (s := u.ticked) (i := i)
      simp only [ticked_time, ticked_calendar, ticked_validity, ticked_slot] at hwork hstands hslot
      refine ⟨_, congrArg Host.Outcome.next (takeMinuteTick_of_owed ho hr), fun h => ?_, hstands, fun hv i => hslot i hv⟩
      have hdone := hwork h
      exact ⟨hdone.cls, hdone.records, hdone.lapsed⟩
  · intro s dt i gen e
    have hexec : exec (.minuteEvaluation dt) s = .next (s.elapse dt).takeMinuteTick := rfl
    generalize exec (.minuteEvaluation dt) s = r at hexec ⊢
    generalize s.elapse dt = u at hexec ⊢
    subst hexec
    intro _ ho hr h
    have hclauses := minuteEvaluation_clauses ((ticked_alone u).mpr h)
    simp only [State.Midnight, ticked_endDue, ticked_startOffered, ticked_time, ticked_validity, ticked_today, ticked_now, ticked_chan,
      ticked_freeCount] at hclauses
    exact ⟨_, congrArg Host.Outcome.next (takeMinuteTick_of_owed ho hr), hclauses⟩

end Sys2Proof.Machine
end

/-! SET_TIME with its work at the calendar and the table (R45, R129), READ_TIME and SET_TIME_SOURCE. -/

section
namespace Sys2Proof.Machine

/-! ## SET_TIME at an entry alone in the table (R45) -/

/-- The table's share of SET_TIME at one slot, short of the catch-up check: the date tests and the end of a past AT instant. -/
def State.retimed (s : State) (i : SlotNo) : State := (s.dateTests true i).endPastSlot i

/-- An AT instant at or before a minute, of an entry that has one (R45). -/
def Entry.Over (e : Entry) (k : ClaimState) (now : CalMinute) : Prop :=
  e.body.ending.isTime = true ∧ ∃ x, k.endInstant = some x ∧ x.key ≤ now.key

/-- The mark of an ACTIVE entry after SET_TIME: past its valid-until, or marked with none to be past (R8). -/
def Entry.Marked (e : Entry) (m : Bool) (today : Date) : Prop := e.body.Past today ∨ (m = true ∧ e.body.validUntil = none)

theorem wouldStart_congr {s t : State} (ht : t.time.time = s.time.time) (hc : t.calendar.records = s.calendar.records)
    {b : EntryBody} {m : CalMinute} : t.WouldStart b m ↔ s.WouldStart b m := by
  simp only [State.WouldStart, State.Examines, ht, hc]

theorem latestStart_congr {s t : State} (ht : t.time.time = s.time.time) (hc : t.calendar.records = s.calendar.records)
    {b : EntryBody} {m : CalMinute} : t.LatestStart b m ↔ s.LatestStart b m := by
  simp only [State.LatestStart, wouldStart_congr ht hc]

section
variable {s : State} {i : SlotNo} {gen : Byte} {e : Entry}

theorem setTimeSchedule_alone (h : s.Alone i gen e) : s.setTimeSchedule = (s.retimed i).catchUp i := by
  have hdates := (dateTests_touches true h.1).othersFree h.othersFree
  have hends := (endPastSlot_stage.touches (s.dateTests true i) i).othersFree hdates
  have heq : s.setTimeSchedule =
      ((s.expiryTest true).arming.forEach allSlots State.endPastSlot).forEach allSlots State.catchUp := by
    unfold State.setTimeSchedule
    rfl
  rw [heq, expiryTest_arming_alone true h.othersFree, endPastSlot_stage.forEach_alone hdates, catchUp_stage.forEach_alone hends]
  rfl

theorem retimed_touches (hi : s.slot i = ⟨gen, some e⟩) : s.Touches i (· ∈ channelsOf e.body.channels) (s.retimed i) := by
  have hends := endPastSlot_touches (dateTests_slot true hi)
  exact ((dateTests_touches true hi).mono fun _ h => h.elim).trans hends

/-- An entry that is not ACTIVE has no claim to end: the date tests are all there is. -/
theorem retimed_of_not_active (hi : s.slot i = ⟨gen, some e⟩) (ha : (e.afterDates true s.today s.now).isActive = false) :
    s.retimed i = s.dateTests true i := endPastSlot_of_not_active (dateTests_slot true hi) ha

theorem afterDates_marked {k : ClaimState} {m : Bool} (he : e.state = .active k m) (today : Date) (now : CalMinute) :
    ∃ m', e.afterDates true today now = .active k m' ∧ (m' = true ↔ e.Marked m today) := by
  refine ⟨_, afterDates_of_active he, ?_⟩
  rw [Entry.Marked, ← pastUntil_iff]
  cases e.body.validUntil <;> simp

theorem retimed_of_not_over {k : ClaimState} {m' : Bool} (hi : s.slot i = ⟨gen, some e⟩)
    (hd : e.afterDates true s.today s.now = .active k m') (ho : ¬ e.Over k s.now) : s.retimed i = s.dateTests true i := by
  have hslot := dateTests_slot true hi
  rw [State.retimed, endPastSlot_of_active hslot hd, if_neg]
  rw [Bool.and_eq_true, reached_iff, (dateTests_touches true hi).now]
  exact ho

theorem retimed_of_over {k : ClaimState} {m' : Bool} (hi : s.slot i = ⟨gen, some e⟩)
    (hd : e.afterDates true s.today s.now = .active k m') (ho : e.Over k s.now) :
    (s.retimed i).slot i = ⟨gen, some { e with state := e.afterEnd m' s.now }⟩ ∧
      (s.retimed i).freeCount = s.freeCount + setSize e.body.channels ∧ (s.retimed i).NoClaims i e.body.channels := by
  have hslot := dateTests_slot true hi
  have hnow : (s.dateTests true i).now = s.now := (dateTests_touches true hi).now
  have hover : (e.body.ending.isTime && reached k.endInstant (s.dateTests true i).now) = true := by
    rw [Bool.and_eq_true, reached_iff, hnow]; exact ho
  have hend := endClaim_slot hslot hd
  have hpool := endClaim_freeCount hslot hd
  have hnone := endClaim_noClaims hslot hd
  rw [hnow] at hend
  rw [dateTests_freeCount true hi] at hpool
  rw [State.retimed, endPastSlot_of_active hslot hd, if_pos hover]
  exact ⟨hend, hpool, hnone⟩

/-- An entry that is not ARMED by the catch-up check stands from there on. -/
theorem setTimeSchedule_of_settled (h : s.Alone i gen e) {x : EntryState} (hx : x ≠ .armed)
    (hslot : (s.retimed i).slot i = ⟨gen, some { e with state := x }⟩) : s.setTimeSchedule = s.retimed i := by
  rw [setTimeSchedule_alone h, catchUp_of_unchecked hslot (.inr (.inr hx))]

theorem ne_armed_of_isEnded {x : EntryState} (h : x.isEnded = true) : x ≠ .armed := fun he => by rw [he] at h; cases h

/-! ### The clauses, by the state of the entry -/

theorem setTime_of_past (h : s.Alone i gen e) (he : e.state = .waiting ∨ e.state = .armed ∨ e.state = .suspended)
    (hp : e.body.Past s.today) :
    s.setTimeSchedule.slot i = ⟨gen, some { e with state := .ended .expired s.now }⟩ ∧
      i ∈ s.setTimeSchedule.table.endedOrder ∧ s.setTimeSchedule.Reports .entry i.val 5 := by
  have hd : e.afterDates true s.today s.now = .ended .expired s.now := afterDates_of_past he hp
  have hr := retimed_of_not_active h.1 (by rw [hd]; rfl)
  have hslot := dateTests_slot true h.1
  rw [hd] at hslot
  rw [setTimeSchedule_of_settled h (by simp) (hr ▸ hslot), hr]
  exact ⟨hslot, dateTests_of_past true h.1 he hp⟩

theorem setTime_of_standing (h : s.Alone i gen e) (ha : e.state.isActive = false) (hx : e.state ≠ .armed)
    (hd : e.afterDates true s.today s.now = e.state) : s.setTimeSchedule.slot i = ⟨gen, some { e with state := e.state }⟩ := by
  have hr := retimed_of_not_active h.1 (by rw [hd]; exact ha)
  have hslot := dateTests_slot true h.1
  rw [hd] at hslot
  rw [setTimeSchedule_of_settled h hx (hr ▸ hslot), hr, hslot]

theorem setTime_of_marked {k : ClaimState} {m : Bool} (h : s.Alone i gen e) (he : e.state = .active k m)
    (ho : ¬ e.Over k s.now) :
    (e.Marked m s.today → s.setTimeSchedule.slot i = ⟨gen, some { e with state := .active k true }⟩) ∧
      (¬ e.Marked m s.today → s.setTimeSchedule.slot i = ⟨gen, some { e with state := .active k false }⟩) ∧
      ∀ c, (s.setTimeSchedule.chan c).claims = (s.chan c).claims := by
  obtain ⟨m', hd, hm⟩ := afterDates_marked he s.today s.now
  have hr := retimed_of_not_over h.1 hd ho
  have hslot := dateTests_slot true h.1
  rw [hd] at hslot
  rw [setTimeSchedule_of_settled h (by simp) (hr ▸ hslot), hr]
  refine ⟨fun hk => ?_, fun hk => ?_, fun c => congrArg Channel.claims ((dateTests_touches true h.1).others c id)⟩
  · rwa [hm.mpr hk] at hslot
  · rwa [Bool.eq_false_iff.mpr fun h => hk (hm.mp h)] at hslot

theorem setTime_of_over {k : ClaimState} {m : Bool} (h : s.Alone i gen e) (he : e.state = .active k m) (ho : e.Over k s.now) :
    (e.body.count = some 0 → s.setTimeSchedule.slot i = ⟨gen, some { e with state := .ended .spent s.now }⟩ ∧
      s.setTimeSchedule.NoClaims i e.body.channels) ∧
    (e.body.count ≠ some 0 → e.Marked m s.today →
      s.setTimeSchedule.slot i = ⟨gen, some { e with state := .ended .expired s.now }⟩ ∧
        s.setTimeSchedule.NoClaims i e.body.channels) := by
  obtain ⟨m', hd, hm⟩ := afterDates_marked he s.today s.now
  obtain ⟨hslot, -, hnone⟩ := retimed_of_over h.1 hd ho
  have hsettled (hx : e.body.count = some 0 ∨ m' = true) : s.setTimeSchedule = s.retimed i :=
    setTimeSchedule_of_settled h (ne_armed_of_isEnded (afterEnd_isEnded hx)) hslot
  refine ⟨fun hc => ?_, fun hc hk => ?_⟩
  · rw [hsettled (.inl hc)]
    rw [Entry.afterEnd, if_pos hc] at hslot
    exact ⟨hslot, hnone⟩
  · rw [hsettled (.inr (hm.mpr hk))]
    rw [Entry.afterEnd, if_neg hc, if_pos (hm.mpr hk)] at hslot
    exact ⟨hslot, hnone⟩

/-- The ways to be ARMED by the catch-up check: an ARMED entry, a WAITING one whose valid-from is reached, and one whose claim ends. -/
def State.ArmedBy (s : State) (e : Entry) : Prop :=
  (e.state = .armed ∧ ¬ e.body.Past s.today) ∨ (e.state = .waiting ∧ ¬ e.body.Past s.today ∧ ¬ e.body.Early s.today) ∨
    ∃ k m, e.state = .active k m ∧ e.Over k s.now ∧ e.body.count ≠ some 0 ∧ ¬ e.Marked m s.today

/-- What the catch-up check finds of such an entry: it is ARMED, with at least the free records of before. -/
structure State.ArmedIn (s : State) (i : SlotNo) (gen : Byte) (e : Entry) (z : State) : Prop where
  slot : z.slot i = ⟨gen, some { e with state := .armed }⟩
  records : s.freeCount ≤ z.freeCount
  idle : e.state.isActive = false → z.freeCount = s.freeCount
  noClaims : e.state.isActive = true → z.NoClaims i e.body.channels

theorem retimed_armedIn_of_idle (hi : s.slot i = ⟨gen, some e⟩) (hn : e.state.isActive = false)
    (hd : e.afterDates true s.today s.now = .armed) : s.ArmedIn i gen e (s.retimed i) := by
  have hslot := dateTests_slot true hi
  have hfree := dateTests_freeCount true hi
  rw [hd] at hslot
  rw [retimed_of_not_active hi (by rw [hd]; rfl)]
  exact ⟨hslot, hfree.ge, fun _ => hfree, fun ha => by rw [hn] at ha; cases ha⟩

theorem retimed_armedIn (hi : s.slot i = ⟨gen, some e⟩) (h : s.ArmedBy e) : s.ArmedIn i gen e (s.retimed i) := by
  obtain ⟨he, hp⟩ | ⟨he, hp, hf⟩ | ⟨k, m, he, ho, hc, hk⟩ := h
  · have hn : e.state.isActive = false := by rw [he]; rfl
    exact retimed_armedIn_of_idle hi hn ((afterDates_of_kept hn hp (.inl (by simp [he]))).trans he)
  · exact retimed_armedIn_of_idle hi (by rw [he]; rfl) (afterDates_of_reached he hp hf)
  · obtain ⟨m', hd, hm⟩ := afterDates_marked he s.today s.now
    obtain ⟨hslot, hpool, hnone⟩ := retimed_of_over hi hd ho
    rw [afterEnd_of_armed hc (Bool.eq_false_iff.mpr fun h => hk (hm.mp h))] at hslot
    exact ⟨hslot, hpool ▸ Nat.le_add_right .., fun ha => by simp [he, EntryState.isActive] at ha, fun _ => hnone⟩

theorem setTime_of_no_start (h : s.Alone i gen e) (ha : s.ArmedBy e) (hr : e.body.trigger.InRange)
    (hn : e.body.catchUp = false ∨ ∀ n, ¬ s.WouldStart e.body n) :
    s.setTimeSchedule.slot i = ⟨gen, some { e with state := .armed }⟩ ∧
      (e.state.isActive = true → s.setTimeSchedule.NoClaims i e.body.channels) := by
  obtain ⟨hslot, -, -, hnone⟩ := retimed_armedIn h.1 ha
  have ht := retimed_touches h.1
  have hstay : (s.retimed i).catchUp i = s.retimed i := by
    obtain hn | hn := hn
    · exact catchUp_of_unchecked hslot (.inr (.inl hn))
    · refine catchUp_of_missedStart_none hslot (missedStart_of_none hr fun m hm => hn m ?_)
      exact (wouldStart_congr (by rw [ht.same.time]) (by rw [ht.calendar])).mp hm
  rw [setTimeSchedule_alone h, hstay]
  exact ⟨hslot, hnone⟩

theorem setTime_of_start (h : s.Alone i gen e) (ha : s.ArmedBy e) (hr : e.body.trigger.InRange)
    (hv : s.time.validity = .valid) (hc : e.body.catchUp = true) {t : TimeOfDay} (hend : e.body.ending = .atTime t)
    {n : CalMinute} (hl : s.LatestStart e.body n) :
    let finish := n.firstAfter t
    (finish.key ≤ s.now.key → s.setTimeSchedule.slot i = ⟨gen, some { e with state := .armed }⟩) ∧
      (s.now.key < finish.key → setSize e.body.channels ≤ s.freeCount →
        s.setTimeSchedule.slot i = ⟨gen, some (e.started s.now (some finish) false)⟩) ∧
      (s.now.key < finish.key → e.state.isActive = false → s.freeCount < setSize e.body.channels →
        s.setTimeSchedule.slot i = ⟨gen, some { e with state := .armed, missed := min 255 (e.missed + 1) }⟩ ∧
          s.setTimeSchedule.Reports .entry i.val 6) := by
  obtain ⟨hslot, hle, hfree, -⟩ := retimed_armedIn h.1 ha
  have ht := retimed_touches h.1
  have hmissed := missedStart_of_latest hr
    ((latestStart_congr (by rw [ht.same.time]) (by rw [ht.calendar])).mpr hl : (s.retimed i).LatestStart e.body n)
  have hcatch := catchUp_of_latest hslot (by rw [ht.same.time, hv]) hc rfl hend hmissed
  rw [ht.now] at hcatch
  intro finish
  rw [setTimeSchedule_alone h, hcatch]
  refine ⟨fun hlate => ?_, fun hin hfit => ?_, fun hin hna hfit => ?_⟩
  · rw [if_neg (Nat.not_lt.mpr hlate), hslot]
  · have hstart := start_armed_slot hslot rfl (hfit.trans hle) (some finish)
    rw [ht.now] at hstart
    rw [if_pos hin, hstart]
    rfl
  · rw [if_pos hin, start_of_missed hslot rfl (hfree hna ▸ hfit), State.raiseEntry_slot, slot_setEntry_self, hslot]
    exact ⟨rfl, raise_reports _ _ _ (by decide)⟩

end

/-- What the rules say of an entry alone in the table at SET_TIME, by its state: `s` is the state before, `z` the one after, `now` the new
time, and `w` a state that has it and the calendar after its day work (R7, R8, R44, R45). -/
def State.Retimed (s w z : State) (now : CalMinute) (i : SlotNo) (gen : Byte) (e : Entry) : Prop :=
  let past := e.body.Past now.date
  let early := e.body.Early now.date
  let marked (m : Bool) : Prop := past ∨ (m = true ∧ e.body.validUntil = none)
  let isOver (k : ClaimState) : Prop := e.body.ending.isTime = true ∧ ∃ x, k.endInstant = some x ∧ x.key ≤ now.key
  let at_ (st : EntryState) : Prop := z.slot i = ⟨gen, some { e with state := st }⟩
  (e.state = .waiting ∨ e.state = .armed ∨ e.state = .suspended → past →
    at_ (.ended .expired now) ∧ i ∈ z.table.endedOrder ∧ z.Reports .entry i.val 5) ∧
  (e.state.isEnded = true ∨ (e.state = .suspended ∧ ¬ past) ∨ (e.state = .waiting ∧ ¬ past ∧ early) → at_ e.state) ∧
  (∀ k m, e.state = .active k m → ¬ isOver k →
    (marked m → at_ (.active k true)) ∧ (¬ marked m → at_ (.active k false)) ∧ ∀ c, (z.chan c).claims = (s.chan c).claims) ∧
  (∀ k m, e.state = .active k m → isOver k →
    (e.body.count = some 0 → at_ (.ended .spent now) ∧ z.NoClaims i e.body.channels) ∧
    (e.body.count ≠ some 0 → marked m → at_ (.ended .expired now) ∧ z.NoClaims i e.body.channels)) ∧
  ((e.state = .armed ∧ ¬ past) ∨ (e.state = .waiting ∧ ¬ past ∧ ¬ early) ∨
      (∃ k m, e.state = .active k m ∧ isOver k ∧ e.body.count ≠ some 0 ∧ ¬ marked m) →
    (e.body.catchUp = false ∨ (∀ n, ¬ w.WouldStart e.body n) →
      at_ .armed ∧ (e.state.isActive = true → z.NoClaims i e.body.channels)) ∧
    (∀ n at_time, e.body.catchUp = true → e.body.ending = .atTime at_time → w.LatestStart e.body n →
      let finish := n.firstAfter at_time
      (finish.key ≤ now.key → at_ .armed) ∧
      (now.key < finish.key → setSize e.body.channels ≤ s.freeCount →
        z.slot i = ⟨gen, some (e.started now (some finish) false)⟩) ∧
      (now.key < finish.key → e.state.isActive = false → s.freeCount < setSize e.body.channels →
        z.slot i = ⟨gen, some { e with state := .armed, missed := min 255 (e.missed + 1) }⟩ ∧
          z.Reports .entry i.val 6)))

theorem setTimeSchedule_retimed {s s₀ w z : State} {i : SlotNo} {gen : Byte} {e : Entry} (h : s.Alone i gen e)
    (hr : e.body.trigger.InRange) (hv : s.time.validity = .valid) (hz : z = s.setTimeSchedule)
    (hchan : ∀ c, s.chan c = s₀.chan c) (hfree : s.freeCount = s₀.freeCount) (htime : w.time.time = s.time.time)
    (hrec : w.calendar.records = s.calendar.records) : s₀.Retimed w z s.now i gen e := by
  unfold State.Retimed
  rw [hz]
  simp only [← hchan, ← hfree, wouldStart_congr htime hrec, latestStart_congr htime hrec]
  refine ⟨setTime_of_past h, fun he => ?_, fun k m he => setTime_of_marked h he, fun k m he => setTime_of_over h he,
    fun ha => ⟨setTime_of_no_start h ha hr, fun n t hc hend hl => setTime_of_start h ha hr hv hc hend hl⟩⟩
  obtain he | ⟨he, hp⟩ | ⟨he, hp, hf⟩ := he
  · exact setTime_of_standing h (isActive_of_isEnded he) (ne_armed_of_isEnded he) (afterDates_of_ended he)
  · have hn : e.state.isActive = false := by rw [he]; rfl
    exact setTime_of_standing h hn (by simp [he]) (afterDates_of_kept hn hp (.inl (by simp [he])))
  · have hn : e.state.isActive = false := by rw [he]; rfl
    exact setTime_of_standing h hn (by simp [he]) (afterDates_of_kept hn hp (.inr hf))

/-! ## What SET_TIME leaves alone -/

theorem setTimeSchedule_calendar (s : State) : s.setTimeSchedule.calendar = s.calendar :=
  (catchUp_stage.forEach_calendar _ _).trans
    ((endPastSlot_stage.forEach_calendar _ _).trans (expiryTest_arming_calendar s true))

theorem setTimeSchedule_reports (s : State) {k : ChangeKind} {n b : Nat} (h : s.Reports k n b) :
    s.setTimeSchedule.Reports k n b :=
  catchUp_stage.forEach_reports _ _ (endPastSlot_stage.forEach_reports _ _ (expiryTest_arming_reports s true h))

/-! ## The command -/

/-- A time that reads writes back as the bytes it was read from. -/
theorem writeTime_of_readTime {y m d h mi sec : Byte} {t : CalTime} (ht : readTime y m d h mi sec = some t) :
    writeTime t = [y, m, d, h, mi, sec, byteOf t.date.weekday] := by
  have back (x : Byte) : byteOf x.toNat = x := by simp [byteOf]
  unfold readTime readDate readTod at ht
  split at ht
  · next date tod hdate htod =>
    simp only [Option.ite_none_right_eq_some, Option.some.injEq] at ht hdate htod
    obtain ⟨-, rfl⟩ := ht
    obtain ⟨-, rfl⟩ := hdate
    obtain ⟨-, rfl⟩ := htod
    simp [writeTime, writeMinute, writeDate, writeTod, CalTime.toMinute, back]
  · cases ht

/-- The Time Base after SET_TIME, with TIME_VALIDITY if it was not VALID (R129). -/
def State.settime (s : State) (t : CalTime) : State :=
  let u := s.setTimeBase { s.time with
    time := t, elapsed := 0, validity := .valid, tableTickOwed := false, claimTickOwed := false }
  if s.time.validity = .valid then u else u.raiseSystem .timeValidity

section
variable (s : State) (t : CalTime)

theorem settime_cases : (s.settime t = s.setTimeBase { s.time with
      time := t, elapsed := 0, validity := .valid, tableTickOwed := false, claimTickOwed := false }) ∨
    s.settime t = (s.setTimeBase { s.time with
      time := t, elapsed := 0, validity := .valid, tableTickOwed := false, claimTickOwed := false }).raiseSystem .timeValidity := by
  unfold State.settime
  dsimp only
  split <;> simp

theorem settime_time : (s.settime t).time = { s.time with
    time := t, elapsed := 0, validity := .valid, tableTickOwed := false, claimTickOwed := false } := by
  obtain h | h := settime_cases s t <;> rw [h] <;> rfl

theorem settime_calendar : (s.settime t).calendar = s.calendar := by
  obtain h | h := settime_cases s t <;> rw [h] <;> rfl

/-- The state that the table's share of SET_TIME starts from. -/
def State.dated (s : State) (t : CalTime) : State := (s.settime t).calendarDayWork

theorem dated_slot (i : SlotNo) : (s.dated t).slot i = s.slot i := by
  rw [State.dated, calendarDayWork_slot]
  obtain h | h := settime_cases s t <;> rw [h] <;> rfl

theorem dated_chan (c : Chan) : (s.dated t).chan c = s.chan c := by
  rw [State.dated, calendarDayWork_chan]
  obtain h | h := settime_cases s t <;> rw [h] <;> rfl

theorem dated_freeCount : (s.dated t).freeCount = s.freeCount := by
  rw [State.dated, calendarDayWork_freeCount]
  obtain h | h := settime_cases s t <;> rw [h] <;> rfl

theorem dated_time : (s.dated t).time = (s.settime t).time := (calendarDayWork_same _).time

theorem dated_now : (s.dated t).now = ⟨t.date, t.tod⟩ := by rw [State.now, dated_time, settime_time]; rfl

theorem dated_validity : (s.dated t).time.validity = .valid := by rw [dated_time, settime_time]

theorem takeTime_eq : s.takeTime t = (s.dated t).setTimeSchedule := by
  simp only [State.takeTime, State.dated, State.settime, State.timeValid, beq_iff_eq]

theorem takeTime_validity : (s.takeTime t).time.validity = .valid := by
  rw [takeTime_eq, (setTimeSchedule_same _).time, dated_validity]

/-- The day work stands done at the end of SET_TIME. -/
theorem takeTime_dayWork : (s.setTimeBase { s.time with
      time := t, elapsed := 0, validity := .valid, tableTickOwed := false, claimTickOwed := false }).DayWorkDone (s.takeTime t) := by
  rw [takeTime_eq]
  exact (calendarDayWork_done (s.settime t)).congr (settime_calendar s t).symm (settime_time s t).symm
    (setTimeSchedule_calendar _) fun h => setTimeSchedule_reports _ h

end

theorem takeTime_retimed {s z : State} {t : CalTime} {i : SlotNo} {gen : Byte} {e : Entry} (hz : z = s.takeTime t)
    (ha : s.Alone i gen e) (hr : e.body.trigger.InRange) :
    s.Retimed { s.setTimeBase { s.time with
      time := t, elapsed := 0, validity := .valid, tableTickOwed := false, claimTickOwed := false } with calendar := z.calendar }
      z ⟨t.date, t.tod⟩ i gen e := by
  have hb : (s.dated t).Alone i gen e := by
    simp only [State.Alone, dated_slot]
    exact ha
  rw [takeTime_eq] at hz
  have hcal : z.calendar = (s.dated t).calendar := by rw [hz, setTimeSchedule_calendar]
  rw [← dated_now s t]
  refine setTimeSchedule_retimed hb hr (dated_validity s t) hz (dated_chan s t) (dated_freeCount s t) ?_
    (congrArg ExceptionCalendar.records hcal)
  rw [dated_time, settime_time]
  rfl

theorem cmdSetTime_of_unreal {s : State} {y m d h mi sec w : Byte} (ht : readTime y m d h mi sec = none) :
    cmdSetTime [y, m, d, h, mi, sec, w] s = .error .badField := by
  simp only [cmdSetTime, ht]

theorem cmdSetTime_of_stopped {s : State} {y m d h mi sec w : Byte} {t : CalTime} (ht : readTime y m d h mi sec = some t)
    (hr : s.time.crystalRunning = false) (hs : s.time.source = .crystal) :
    cmdSetTime [y, m, d, h, mi, sec, w] s = .error .wrongState := by
  have hno : (s.time.crystalRunning || s.time.source != .crystal) = false := by rw [hr, hs]; rfl
  simp only [cmdSetTime, ht, hno, check_false]

theorem cmdSetTime_of_taken {s : State} {y m d h mi sec w : Byte} {t : CalTime} (ht : readTime y m d h mi sec = some t)
    (hr : s.time.crystalRunning = true ∨ s.time.source = .line) :
    cmdSetTime [y, m, d, h, mi, sec, w] s =
      .ok (s.takeTime t, [y, m, d, h, mi, sec] ++ [byteOf t.date.weekday, 1]) := by
  have hok : (s.time.crystalRunning || s.time.source != .crystal) = true := by obtain hr | hr := hr <;> simp [hr]
  simp only [cmdSetTime, ht, hok, check_true, takeTime_validity, writeTime_of_readTime ht]
  rfl

/-! ## The source (R126, R130) -/

theorem judgeSource_preference (s : State) : s.judgeSource.time.preference = s.time.preference := by
  unfold State.judgeSource State.handToLine State.handToCrystal State.makeDoubtful
  dsimp only
  repeat' split
  all_goals rfl

theorem judgeSource_source (s : State) : s.judgeSource.time.source = s.judgedSource := by
  unfold State.judgeSource
  split
  · next h => exact h.symm
  · cases hj : s.judgedSource with
    | line => rfl
    | crystal =>
      unfold State.handToCrystal State.makeDoubtful
      dsimp only
      repeat' split
      all_goals rfl

theorem cmdSetTimeSource_of_value {s : State} {b : Byte} (h : 1 < b.toNat) : cmdSetTimeSource [b] s = .error .badField := by
  have h0 : b ≠ 0 := fun e => by simp [e] at h
  have h1 : b ≠ 1 := fun e => by simp [e] at h
  have hitem : timeSourceItem [b] s = .error .badField := by
    rw [timeSourceItem, beq_eq_false_iff_ne.mpr h0, beq_eq_false_iff_ne.mpr h1]
    rfl
  simp only [cmdSetTimeSource, hitem]

/-- Settles O44: SET_TIME by the state of the entry after the date tests, the other two commands by their own equations. -/
theorem timeCommands : Obligations.TimeCommands := by
  intro s tag y m d h mi sec w p hready hp
  have refuse {i : Instr} {cmd : Byte} {q : List Byte} {r : Result} (hi : exec i s = .next (s.submit cmd tag q))
      (hq : q.length ≤ 60) (hc : cmd ≠ 0x69) (hr : runCommand cmd q s = .error r) :
      exec i s = .next (s.refusedWith cmd tag r) := hi.trans (congrArg _ (submit_refused hready hq hc hr))
  have reply {i : Instr} {cmd : Byte} {q payload : List Byte} {t : State} (hi : exec i s = .next (s.submit cmd tag q))
      (hq : q.length ≤ 60) (hc : cmd ≠ 0x69) (ha : cmd ≠ 0x6A) (hr : runCommand cmd q s = .ok (t, payload)) :
      exec i s = .next (t.replied cmd tag payload) := hi.trans (congrArg _ (submit_replied hready hq hc ha hr))
  refine ⟨fun ht => refuse rfl (by simp) (by decide) (cmdSetTime_of_unreal (w := w) ht),
    fun t ht hr hs => refuse rfl (by simp) (by decide) (cmdSetTime_of_stopped (w := w) ht hr hs), fun t ht hr => ?_, fun hne => ?_, ?_, ?_, ?_,
    fun hw => refuse rfl (by simp) (by decide) (cmdSetTimeSource_of_value hw)⟩
  · intro u v z
    have hz : z = s.takeTime t := by
      have hv : v = s.settime t := rfl
      rw [takeTime_eq, State.dated, ← hv]
    clear_value z
    have hrun : runCommand 0x50 [y, m, d, h, mi, sec, w] s = .ok (z, [y, m, d, h, mi, sec] ++ [byteOf t.date.weekday, 1]) :=
      hz ▸ cmdSetTime_of_taken (w := w) ht hr
    have hwork : u.DayWorkDone z := hz ▸ takeTime_dayWork s t
    refine ⟨reply rfl (by simp) (by decide) (by decide) hrun, hwork, fun i gen e ha hrange => ?_⟩
    exact takeTime_retimed hz ha hrange
  · refine refuse rfl hp (by decide) ?_
    show cmdReadTime p s = _
    rw [cmdReadTime, List.isEmpty_eq_false_iff.mpr hne, check_false]
  · refine reply rfl (by simp) (by decide) (by decide) ?_
    simp [runCommand, cmdReadTime, writeTime, CalTime.toMinute]
  · intro t
    have hpref : t.time.preference = .crystal := judgeSource_preference _
    have hsource : t.time.source = .crystal := judgeSource_source _
    refine ⟨reply rfl (by simp) (by decide) (by decide) ?_, hsource⟩
    show Except.ok (t, [t.time.preference.code, t.time.source.code]) = _
    rw [hpref, hsource]
    rfl
  · intro t
    have hpref : t.time.preference = .auto := judgeSource_preference _
    have hsource : t.time.source = if s.line.state = .locked then .line else .crystal :=
      (judgeSource_source _).trans (by simp [State.judgedSource])
    refine reply rfl (by simp) (by decide) (by decide) ?_
    show Except.ok (t, [t.time.preference.code, t.time.source.code]) = _
    rw [hpref, hsource]
    split <;> rfl

end Sys2Proof.Machine
end

/-! The default program store: the tests of its header (R159), and the items of a load (R152, R161, R192). -/

section
namespace Sys2Proof.Machine

/-! ## The header (R159) -/

section
variable {array : List Host.Cell}

/-- The MARKER of a store. -/
def MarkerOk (array : List Host.Cell) : Prop := readCell array 0 = 0x5A ∧ readCell array 1 = 0xC3

/-- The FORMAT of a store: its number, and its reserved bytes erased. -/
def FormatOk (array : List Host.Cell) : Prop := readCell array 2 = 1 ∧ ∀ k, 9 ≤ k → k ≤ 15 → readCell array k = 0xFF

theorem markerOk_iff : (readCell array 0 != 0x5A || readCell array 1 != 0xC3) = false ↔ MarkerOk array := by
  simp [MarkerOk]

theorem formatOk_iff : (readCell array 2 != 1 || (readCells array 9 7).any (· != 0xFF)) = false ↔ FormatOk array := by
  have hcells : (readCells array 9 7).any (· != 0xFF) = false ↔ ∀ k, 9 ≤ k → k ≤ 15 → readCell array k = 0xFF := by
    simp only [readCells, List.any_map, List.any_eq_false, List.mem_range, Function.comp, bne_iff_ne, ne_eq, not_not]
    refine ⟨fun h k h9 h15 => ?_, fun h k hk => h _ (by omega) (by omega)⟩
    have := h (k - 9) (by omega)
    rwa [Nat.add_sub_cancel' h9] at this
  simp only [Bool.or_eq_false_iff, bne_eq_false_iff_eq, hcells, FormatOk]

theorem frontTests_of_marker (h : ¬ MarkerOk array) : frontTests array = some .marker := by
  rw [← markerOk_iff, Bool.not_eq_false] at h
  rw [frontTests, if_pos h]

theorem frontTests_of_format (hm : MarkerOk array) (h : ¬ FormatOk array) : frontTests array = some .format := by
  rw [← formatOk_iff, Bool.not_eq_false] at h
  rw [frontTests, markerOk_iff.mpr hm, if_neg Bool.false_ne_true, if_pos h]

theorem frontTests_of_ok (hm : MarkerOk array) (hf : FormatOk array) :
    frontTests array = if 2032 < (readHeader array).length then some .length else none := by
  rw [frontTests, markerOk_iff.mpr hm, formatOk_iff.mpr hf]
  rfl

theorem headerTests_of_front {r : BadReason} (h : frontTests array = some r) : headerTests array = some r := by
  unfold headerTests
  rw [h]

theorem headerTests_of_length (hm : MarkerOk array) (hf : FormatOk array) (hl : (readHeader array).length ≤ 2032) :
    headerTests array =
      if (crc16 (readCells array 16 (readHeader array).length)).toNat != readWord array 7 then some .crc
      else if chainOk array (16 + (readHeader array).length) (readHeader array).items 16 then none else some .chain := by
  unfold headerTests
  rw [frontTests_of_ok hm hf, if_neg (Nat.not_lt.mpr hl)]

end

/-! ## The types and lengths of items (R161, R192) -/

section
variable {u : State} {p : List Byte}

theorem applyItem_channel_error {r : Result} (h : configureItem p u = .error r) : applyItem 1 p u = .error r := by
  show (configureItem p u).map (·.2) = _
  rw [h]
  rfl

theorem applyItem_channel_ok {c : Chan} {t : State} (h : configureItem p u = .ok (c, t)) : applyItem 1 p u = .ok t := by
  show (configureItem p u).map (·.2) = _
  rw [h]
  rfl

theorem applyItem_button_error {r : Result} (h : buttonItem p u = .error r) : applyItem 5 p u = .error r := by
  show (buttonItem p u).map (·.2) = _
  rw [h]
  rfl

theorem applyItem_button_ok {b : ButtonNo} {t : State} (h : buttonItem p u = .ok (b, t)) : applyItem 5 p u = .ok t := by
  show (buttonItem p u).map (·.2) = _
  rw [h]
  rfl

theorem applyItem_unknown {type : Byte} (h : type = 0 ∨ 8 < type.toNat) : applyItem type p u = .error .badField := by
  have hn : type.toNat = 0 ∨ 8 < type.toNat := h.imp_left fun h => by rw [h]; rfl
  unfold applyItem
  split
  case h_9 => rfl
  all_goals omega

theorem configureItem_of_length (h : p.length ≠ 9) : configureItem p u = .error .badLength := by
  unfold configureItem
  split
  · simp at h
  · rfl

theorem entryItem_of_length (h : bodyLengthOk p = false) : entryItem p u = .error .badLength := by
  rw [entryItem, h]
  rfl

theorem addExceptionItem_of_length {o : Origin} (h : p.length ≠ 7) : addExceptionItem o p u = .error .badLength := by
  unfold addExceptionItem
  split
  · simp at h
  · rfl

theorem lightLimitsItem_of_length (h : p.length ≠ 5) : lightLimitsItem p u = .error .badLength := by
  unfold lightLimitsItem
  split
  · simp at h
  · rfl

theorem buttonItem_of_length (h : p.length ≠ 7) : buttonItem p u = .error .badLength := by
  unfold buttonItem
  split
  · simp at h
  · rfl

theorem lineConfirmItem_of_length (h : p.length ≠ 1) : lineConfirmItem p u = .error .badLength := by
  unfold lineConfirmItem
  split
  · simp at h
  · rfl

theorem supplyItem_of_length (h : p.length ≠ 2) : supplyItem p u = .error .badLength := by
  unfold supplyItem
  split
  · simp at h
  · rfl

theorem timeSourceItem_of_length (h : p.length ≠ 1) : timeSourceItem p u = .error .badLength := by
  unfold timeSourceItem
  split
  · simp at h
  · rfl

theorem applyItem_of_length {type : Byte} (h : (type = 1 ∧ p.length ≠ 9) ∨ (type = 2 ∧ bodyLengthOk p = false) ∨
    (type = 3 ∧ p.length ≠ 7) ∨ (type = 4 ∧ p.length ≠ 5) ∨ (type = 5 ∧ p.length ≠ 7) ∨ (type = 6 ∧ p.length ≠ 1) ∨
    (type = 7 ∧ p.length ≠ 2) ∨ (type = 8 ∧ p.length ≠ 1)) : applyItem type p u = .error .badLength := by
  obtain ⟨rfl, h⟩ | ⟨rfl, h⟩ | ⟨rfl, h⟩ | ⟨rfl, h⟩ | ⟨rfl, h⟩ | ⟨rfl, h⟩ | ⟨rfl, h⟩ | ⟨rfl, h⟩ := h
  · exact applyItem_channel_error (configureItem_of_length h)
  · exact entryItem_of_length h
  · exact addExceptionItem_of_length h
  · exact lightLimitsItem_of_length h
  · exact applyItem_button_error (buttonItem_of_length h)
  · exact lineConfirmItem_of_length h
  · exact supplyItem_of_length h
  · exact timeSourceItem_of_length h

end

/-! ## The configuration of a channel (R83, R101) -/

section
variable {u : State} {c : Chan} {cfg : ChannelConfig}

theorem configureItem_of_unread {n k r a o l w d1 d0 : Byte} (h : readChannelNo n = none ∨ readConfig k r a o l w d1 d0 = none) :
    configureItem [n, k, r, a, o, l, w, d1, d0] u = .error .badField := by
  unfold configureItem
  dsimp only
  split
  · next hc hg => simp [hc, hg] at h
  · rfl

theorem configureItem_of_inFlight {n k r a o l w d1 d0 : Byte} (hc : readChannelNo n = some c)
    (hg : readConfig k r a o l w d1 d0 = some cfg) (hf : (u.chan c).switch.inFlight = true) :
    configureItem [n, k, r, a, o, l, w, d1, d0] u = .error .wrongState := by
  simp only [configureItem, hc, hg, hf, if_true]

theorem configureItem_of_read {n k r a o l w d1 d0 : Byte} (hc : readChannelNo n = some c)
    (hg : readConfig k r a o l w d1 d0 = some cfg) (hf : (u.chan c).switch.inFlight = false) :
    configureItem [n, k, r, a, o, l, w, d1, d0] u = .ok (c, u.applyConfig c cfg) := by
  simp only [configureItem, hc, hg, hf, Bool.false_eq_true, if_false]

theorem reportDriven_onChannels (s : State) (c : Chan) (d : Driven) : s.OnChannels (· = c) (s.reportDriven c d) := by
  unfold State.reportDriven
  split
  · exact .refl s
  · exact raise_onChannels s _ _ _

theorem changeKind_onChannels (s : State) (c : Chan) (k : ChannelKind) : s.OnChannels (· = c) (s.changeKind c k) := by
  unfold State.changeKind
  exact ((dequeue_onChannels s c).trans (setChan_onChannels _ c (by rfl))).trans (reportDriven_onChannels _ c _)

theorem reconcile_onChannels (s : State) (c : Chan) : s.OnChannels (· = c) (s.reconcile c) := by
  unfold State.reconcile
  dsimp only
  split
  · exact enqueue_onChannels s c
  · exact .refl s

theorem storeConfig_onChannels (s : State) (c : Chan) (cfg : ChannelConfig) :
    (s.setChan c { s.chan c with config := cfg }).OnChannels (· = c) (s.storeConfig c cfg) := by
  unfold State.storeConfig
  dsimp only
  split
  · exact .refl _
  · exact changeKind_onChannels _ c _

/-- Beyond the configuration itself, what CONFIGURE_CHANNEL does is an operation on that channel. -/
theorem applyConfig_onChannels (s : State) (c : Chan) (cfg : ChannelConfig) :
    (s.setChan c { s.chan c with config := cfg }).OnChannels (· = c) (s.applyConfig c cfg) := by
  rw [applyConfig_eq]
  refine State.OnChannels.trans ?_ (reconcile_onChannels _ c)
  split
  · exact storeConfig_onChannels s c cfg
  · exact (storeConfig_onChannels s c cfg).trans (retarget_onChannels _ c)

theorem applyConfig_config (s : State) (c : Chan) (cfg : ChannelConfig) : ((s.applyConfig c cfg).chan c).config = cfg := by
  rw [(applyConfig_onChannels s c cfg).config, chan_setChan, if_pos rfl]

theorem storeConfig_claims (s : State) (c : Chan) (cfg : ChannelConfig) :
    ((s.storeConfig c cfg).chan c).claims = (s.chan c).claims := by
  rw [(storeConfig_schedule s c cfg).claims, chan_setChan, if_pos rfl]

theorem applyConfig_claims (s : State) (c : Chan) (cfg : ChannelConfig) :
    ((s.applyConfig c cfg).chan c).claims = (s.chan c).claims := by
  rw [applyConfig_eq, (reconcile_schedule _ c).claims]
  split
  · exact storeConfig_claims s c cfg
  · rw [retarget_claims, storeConfig_claims]

/-- A new rest state brings the target that the list calls for (R62, R83). -/
theorem applyConfig_target (s : State) (c : Chan) (cfg : ChannelConfig) : ((s.applyConfig c cfg).chan c).target =
    if cfg.rest = (s.chan c).config.rest then (s.chan c).target else targetOf (s.chan c).claims cfg.rest := by
  rw [applyConfig_eq, (reconcile_schedule _ c).target]
  split
  · rw [(storeConfig_schedule s c cfg).target, chan_setChan, if_pos rfl]
  · rw [retarget_target, if_pos rfl, Channel.wanted, storeConfig_claims, (storeConfig_onChannels s c cfg).config, chan_setChan,
      if_pos rfl]

end

/-! ## The items of the other blocks -/

section
variable {u : State}

theorem entryItem_of_unread {p : List Byte} (hp : bodyLengthOk p = true) (h : readBody p = none) :
    entryItem p u = .error .badField := by
  simp only [entryItem, hp, h, if_true]

theorem entryItem_of_error {p : List Byte} {b : EntryBody} {r : Result} (hp : bodyLengthOk p = true) (h : readBody p = some b)
    (hm : u.makeEntry .store b = .error r) : entryItem p u = .error r := by
  simp only [entryItem, hp, h, hm, if_true]

theorem entryItem_of_ok {p : List Byte} {b : EntryBody} {i : SlotNo} {t : State} (hp : bodyLengthOk p = true)
    (h : readBody p = some b) (hm : u.makeEntry .store b = .ok (i, t)) : entryItem p u = .ok t := by
  simp only [entryItem, hp, h, hm, if_true]

theorem addExceptionItem_of_unread {o : Origin} {head f1 f2 f3 l1 l2 l3 : Byte}
    (h : readException head f1 f2 f3 l1 l2 l3 = none) : addExceptionItem o [head, f1, f2, f3, l1, l2, l3] u = .error .badField := by
  simp only [addExceptionItem, h]

theorem addExceptionItem_of_read {o : Origin} {head f1 f2 f3 l1 l2 l3 : Byte} {x : ExceptionSpan × DayClass}
    (h : readException head f1 f2 f3 l1 l2 l3 = some x) :
    addExceptionItem o [head, f1, f2, f3, l1, l2, l3] u = u.addRecord o x := by
  simp only [addExceptionItem, h]

/-- The record is past as the rule says it: a dated one that is not kept on today's date (R54, R55). -/
theorem addRecord_past_iff (r : ExceptionRecord) :
    (u.timeValid && r.lapsed u.today) = true ↔ u.time.validity = .valid ∧ r.keptOn u.today = false := by
  simp [State.timeValid, keptOn_eq_not_lapsed]

theorem lightLimitsItem_of_bad {e1 e0 l1 l0 c : Byte}
    (h : 1023 < natOf e1 e0 ∨ 1023 < natOf l1 l0 ∨ c = 0 ∨ natOf l1 l0 ≤ natOf e1 e0) :
    lightLimitsItem [e1, e0, l1, l0, c] u = .error .badField := by
  refine if_neg fun hok => ?_
  simp only [Bool.and_eq_true, decide_eq_true_eq, bne_iff_ne] at hok
  obtain ⟨⟨⟨he, hl⟩, hc⟩, hel⟩ := hok
  obtain h | h | h | h := h
  · omega
  · omega
  · exact hc h
  · omega

theorem lightLimitsItem_of_ok {e1 e0 l1 l0 c : Byte} (he : natOf e1 e0 ≤ 1023) (hl : natOf l1 l0 ≤ 1023) (hc : c ≠ 0)
    (hel : natOf e1 e0 < natOf l1 l0) : lightLimitsItem [e1, e0, l1, l0, c] u = .ok (u.setLight
      { u.light with darkEnter := natOf e1 e0, darkLeave := natOf l1 l0, confirmCount := c.toNat }) :=
  if_pos (by simp only [Bool.and_eq_true, decide_eq_true_eq, bne_iff_ne]; exact ⟨⟨⟨he, hl⟩, hc⟩, hel⟩)

theorem buttonItem_of_bad {n hi lo e m1 m0 on : Byte} (h : readButtonNo n = none ∨ readEnding e m1 m0 = none ∨
    readFlag on = none ∨ (on = 1 ∧ readSet hi lo = 0)) : buttonItem [n, hi, lo, e, m1, m0, on] u = .error .badField := by
  unfold buttonItem
  dsimp only
  split
  · next hb hen hon =>
    obtain h | h | h | ⟨rfl, h⟩ := h
    · rw [hb] at h; cases h
    · rw [hen] at h; cases h
    · rw [hon] at h; cases h
    · cases hon; rw [h]; rfl
  · rfl

theorem buttonItem_of_ok {n hi lo e m1 m0 on : Byte} {b : ButtonNo} {en : OverrideEnding} {flag : Bool}
    (hb : readButtonNo n = some b) (hen : readEnding e m1 m0 = some en) (hon : readFlag on = some flag)
    (hset : flag = true → readSet hi lo ≠ 0) :
    buttonItem [n, hi, lo, e, m1, m0, on] u = .ok (b, u.applyButton b (readSet hi lo) en flag) := by
  simp only [buttonItem, hb, hen, hon]
  refine if_neg fun h => ?_
  simp only [Bool.and_eq_true, beq_iff_eq] at h
  exact hset h.1 h.2

theorem lineConfirmItem_of_bad {x : Byte} (h : x.toNat < 4 ∨ 63 < x.toNat) : lineConfirmItem [x] u = .error .badField :=
  if_neg (by simp only [Bool.and_eq_true, decide_eq_true_eq]; omega)

theorem lineConfirmItem_of_ok {x : Byte} (h4 : 4 ≤ x.toNat) (h63 : x.toNat ≤ 63) :
    lineConfirmItem [x] u = .ok (u.setLine { u.line with confirmCount := x.toNat }) :=
  if_pos (by simp only [Bool.and_eq_true, decide_eq_true_eq]; exact ⟨h4, h63⟩)

theorem supplyItem_of_bad {x y : Byte} (h : y = 0 ∨ 16 < y.toNat) : supplyItem [x, y] u = .error .badField := by
  refine if_neg fun hok => ?_
  simp only [staggerOk, Bool.and_eq_true, decide_eq_true_eq] at hok
  obtain rfl | h := h
  · exact absurd hok.1 (by decide)
  · omega

theorem supplyItem_of_ok {x y : Byte} (h : y ≠ 0) (h16 : y.toNat ≤ 16) :
    supplyItem [x, y] u = .ok ((u.storeDelay x.toNat).storeStagger y.toNat) := by
  have hpos : y.toNat ≠ 0 := fun he => h (BitVec.eq_of_toNat_eq he)
  refine if_pos ?_
  simp only [staggerOk, Bool.and_eq_true, decide_eq_true_eq]
  omega

theorem timeSourceItem_of_value {b : Byte} (h : 1 < b.toNat) : timeSourceItem [b] u = .error .badField := by
  have h0 : b ≠ 0 := fun e => by simp [e] at h
  have h1 : b ≠ 1 := fun e => by simp [e] at h
  rw [timeSourceItem, beq_eq_false_iff_ne.mpr h0, beq_eq_false_iff_ne.mpr h1]
  rfl

end

/-! ## No item touches the store -/

theorem judgeSource_store (s : State) : s.judgeSource.store = s.store := by
  unfold State.judgeSource State.handToLine State.handToCrystal State.makeDoubtful
  dsimp only
  repeat' split
  all_goals rfl

section
variable {u t : State} {p : List Byte}

theorem configureItem_store {x : Chan × State} (h : configureItem p u = .ok x) : x.2.store = u.store := by
  unfold configureItem at h
  repeat' split at h
  all_goals cases h
  exact (applyConfig_onChannels u _ _).same.store

theorem entryItem_store (h : entryItem p u = .ok t) : t.store = u.store := by
  unfold entryItem at h
  repeat' split at h
  all_goals cases h
  next hm => exact (makeEntry_same hm).store

theorem lightLimitsItem_store (h : lightLimitsItem p u = .ok t) : t.store = u.store := by
  unfold lightLimitsItem at h
  dsimp only at h
  repeat' split at h
  all_goals cases h
  rfl

theorem buttonItem_store {x : ButtonNo × State} (h : buttonItem p u = .ok x) : x.2.store = u.store := by
  unfold buttonItem at h
  repeat' split at h
  all_goals cases h
  rfl

theorem lineConfirmItem_store (h : lineConfirmItem p u = .ok t) : t.store = u.store := by
  unfold lineConfirmItem at h
  repeat' split at h
  all_goals cases h
  rfl

theorem supplyItem_store (h : supplyItem p u = .ok t) : t.store = u.store := by
  unfold supplyItem at h
  repeat' split at h
  all_goals cases h
  rfl

theorem timeSourceItem_store (h : timeSourceItem p u = .ok t) : t.store = u.store := by
  unfold timeSourceItem at h
  repeat' split at h
  all_goals cases h
  · exact judgeSource_store _
  · exact judgeSource_store _

theorem map_snd_ok {α : Type} {x : Except Result (α × State)} (h : x.map (·.2) = .ok t) : ∃ a, x = .ok (a, t) := by
  cases x with
  | error r => cases h
  | ok y => exact ⟨y.1, by cases h; rfl⟩

theorem applyItem_store {type : Byte} (h : applyItem type p u = .ok t) : t.store = u.store := by
  unfold applyItem at h
  split at h
  · obtain ⟨c, hc⟩ := map_snd_ok h
    exact configureItem_store hc
  · exact entryItem_store h
  · exact (addExceptionItem_same h).store
  · exact lightLimitsItem_store h
  · obtain ⟨b, hb⟩ := map_snd_ok h
    exact buttonItem_store hb
  · exact lineConfirmItem_store h
  · exact supplyItem_store h
  · exact timeSourceItem_store h
  · cases h

end

end Sys2Proof.Machine
end

/-! The run of a load (R159 to R165): its start, its retire phase, its steps, and its record. -/

section
namespace Sys2Proof.Machine

/-! ## The retire phase (R160) -/

/-- A slot once its entry, if it has origin STORE, is retired. -/
def Slot.unstored (x : Slot) : Slot :=
  match x.entry with
  | some e => if e.origin = .store then ⟨x.generation + 1, none⟩ else x
  | none => x

theorem unstored_origin {x : Slot} {e : Entry} (h : x.unstored.entry = some e) : e.origin = .host := by
  cases hx : x.entry with
  | none => simp [Slot.unstored, hx] at h
  | some y =>
    by_cases ho : y.origin = .store
    · simp [Slot.unstored, hx, ho] at h
    · have hy : y = e := by simpa [Slot.unstored, hx, ho] using h
      subst hy
      cases hc : y.origin with
      | host => rfl
      | store => exact absurd hc ho

theorem unstored_of_host {x : Slot} {e : Entry} (h : x.entry = some e) (ho : e.origin = .host) : x.unstored = x := by
  simp [Slot.unstored, h, ho]

theorem retireStored_of_free {s : State} {i : SlotNo} (h : (s.slot i).entry = none) : s.retireStored i = s := by
  unfold State.retireStored
  simp only [h]

theorem retireStored_of_entry {s : State} {i : SlotNo} {gen : Byte} {e : Entry} (hi : s.slot i = ⟨gen, some e⟩) :
    s.retireStored i = if e.origin = .store then s.retire i else s := by
  unfold State.retireStored
  simp only [hi]

theorem retireStored_stage : SlotStage State.retireStored :=
  .of_entry (fun _ _ h => retireStored_of_free h) fun s i _ _ hi => by
    rw [retireStored_of_entry hi]
    split
    · exact (retire_touches hi).mono fun _ _ => trivial
    · exact .refl s

theorem retireStored_slot (s : State) (i j : SlotNo) :
    (s.retireStored i).slot j = if i = j then (s.slot i).unstored else s.slot j := by
  split
  · next hj =>
    subst hj
    cases he : (s.slot i).entry with
    | none => simp [retireStored_of_free he, Slot.unstored, he]
    | some e =>
      have hi := slot_of_entry he
      rw [retireStored_of_entry hi]
      by_cases ho : e.origin = .store
      · simp [retire_slot_self hi, Slot.unstored, he, ho]
      · simp [Slot.unstored, he, ho]
  · next hj => exact (retireStored_stage.touches s i).slots j (Ne.symm hj)

theorem retirePhase_same (s : State) : s.SameElsewhere s.retirePhase :=
  (retireStored_stage.forEach_same s allSlots).trans (keepRecords_same _ _)

theorem retirePhase_slot (s : State) (j : SlotNo) : s.retirePhase.slot j = (s.slot j).unstored := by
  have hpass := forEach_slots allSlots_nodup (g := Slot.unstored) retireStored_slot s j
  rw [if_pos (mem_allSlots j)] at hpass
  rw [← hpass]
  simp only [State.slot, State.retirePhase, keepRecords_table]

theorem retirePhase_records (s : State) :
    s.retirePhase.calendar.records = s.calendar.records.filter fun r => r.origin != .store := by
  rw [State.retirePhase, keepRecords_records, retireStored_stage.forEach_calendar]

/-! ## The start of a load (R159, R160) -/

section
variable (s : State) (src : LoadSource)

theorem setLoad_load (l : LoadRecord) : (s.setLoad l).store.load = l := rfl
theorem setLoad_array (l : LoadRecord) : (s.setLoad l).store.array = s.store.array := rfl
theorem setLoad_slot (l : LoadRecord) (j : SlotNo) : (s.setLoad l).slot j = s.slot j := rfl
theorem setLoad_calendar (l : LoadRecord) : (s.setLoad l).calendar = s.calendar := rfl

theorem retired_load : (s.retired src).store.load =
    { LoadRecord.fresh src s.store.array s.osc with phase := some .apply } := by
  rw [State.retired, setLoad_load]

theorem retired_array : (s.retired src).store.array = s.store.array := by
  rw [State.retired, setLoad_array, (retirePhase_same _).store, setLoad_array]

theorem retired_slot (j : SlotNo) : (s.retired src).slot j = (s.slot j).unstored := by
  rw [State.retired, setLoad_slot, retirePhase_slot, setLoad_slot]

theorem retired_records :
    (s.retired src).calendar.records = s.calendar.records.filter fun r => r.origin != .store := by
  rw [State.retired, setLoad_calendar, retirePhase_records, setLoad_calendar]

/-- A load on a bad store ends at once, and nothing but its record, load-pending and LOAD_DONE changes (R159). -/
theorem endLoad_eq (l : LoadRecord) : s.endLoad l = { s with
    store := { s.store with load := l }, supply := { s.supply with loadPending := false },
    port := { s.port with changes := addReasons .system 0 0x20 s.port.changes } } := rfl

end

theorem completeLoad_reports (s : State) : s.completeLoad.Reports .system 0 5 := raise_reports _ _ _ (by decide)

theorem cmdLoadDefaults_of_parameters {s : State} {p : List Byte} (h : p ≠ []) : cmdLoadDefaults p s = .error .badLength := by
  rw [cmdLoadDefaults, List.isEmpty_eq_false_iff.mpr h, check_false]

theorem cmdLoadDefaults_of_idle {s : State} (h : s.loadRunning = false) :
    cmdLoadDefaults [] s = .ok (s.startLoad .host, []) := by
  rw [cmdLoadDefaults, h]
  rfl

/-- LOAD_DEFAULTS on a ready port with no load running is ACCEPTED (R164). -/
theorem exec_loadDefaults {s : State} (hs : s.Ready) (h : s.loadRunning = false) (tag : Byte) :
    exec (.loadDefaults tag []) s = .next ((s.startLoad .host).pushReply ⟨tag, 0x6A, .accepted, []⟩) := by
  have hrun : runCommand 0x6A [] s = .ok (s.startLoad .host, []) := cmdLoadDefaults_of_idle h
  exact congrArg Host.Outcome.next (submit_taken hs (by simp) (by decide) hrun)

/-! ## A step of the apply phase (R161, R162) -/

section
variable {u v : State} {n : NextItem} {h : StoreHeader} {l : LoadRecord}

theorem loadStepDue_of_due (hstate : u.store.load.state = .running) (hphase : u.store.load.phase = some .apply)
    (hnext : u.store.load.next = some n) (hdue : 2048 * (n.index + 1) ≤ 125 * (u.osc - u.store.load.startedAt)) :
    u.loadStepDue = some n := by
  unfold State.loadStepDue
  simp only [hnext, hstate, hphase, hdue, and_self, if_true]

theorem takeItem_of_ok (hv : applyItem (readCell u.store.array n.offset)
      (readCells u.store.array (n.offset + 2) (readCell u.store.array (n.offset + 1)).toNat) u = .ok v) :
    u.takeItem n = v.setLoad { u.store.load with
      next := some ⟨n.index + 1, n.offset + 2 + (readCell u.store.array (n.offset + 1)).toNat⟩
      applied := u.store.load.applied + 1 } := by
  unfold State.takeItem
  simp only [hv, applyItem_store hv]
  rfl

theorem takeItem_of_error {r : Result} (hr : applyItem (readCell u.store.array n.offset)
      (readCells u.store.array (n.offset + 2) (readCell u.store.array (n.offset + 1)).toNat) u = .error r) :
    u.takeItem n = u.setLoad { u.store.load with
      next := some ⟨n.index + 1, n.offset + 2 + (readCell u.store.array (n.offset + 1)).toNat⟩
      rejected := u.store.load.rejected + 1
      firstRejection := if u.store.load.firstRejection = none then some ⟨n.index, readCell u.store.array n.offset, r⟩
        else u.store.load.firstRejection } := by
  unfold State.takeItem
  simp only [hr]
  refine congrArg u.setLoad ?_
  unfold LoadRecord.count
  cases u.store.load.firstRejection <;> rfl

theorem finished_iff (hh : l.header = some h) : l.finished n = true ↔ h.items ≤ n.index + 1 := by
  simp [LoadRecord.finished, hh]

/-- A step that is not the last leaves the record of the item taken. -/
theorem loadStep_of_more (hd : u.loadStepDue = some n) (ht : u.takeItem n = v.setLoad l) (hh : l.header = some h)
    (hn : n.index + 1 < h.items) : u.loadStep = v.setLoad l := by
  have hl : (v.setLoad l).store.load = l := rfl
  rw [loadStep_of_due hd, ht, hl, if_neg fun hf => Nat.not_le.mpr hn ((finished_iff hh).mp hf)]

/-- The last step completes the load: the record goes DONE, load-pending is cleared and LOAD_DONE added (R162). -/
theorem loadStep_of_last (hd : u.loadStepDue = some n) (ht : u.takeItem n = v.setLoad l) (hh : l.header = some h)
    (hn : h.items ≤ n.index + 1) : u.loadStep =
      ((v.setLoad { l with state := .done, phase := none, next := none }).setSupply
        { v.supply with loadPending := false }).raiseSystem .loadDone := by
  have hl : (v.setLoad l).store.load = l := rfl
  rw [loadStep_of_due hd, ht, hl, if_pos ((finished_iff hh).mpr hn)]
  rfl

end

/-! ## The parts of the obligation -/

/-- A good store: the start of its load, with items to apply. -/
theorem startLoad_retires {s : State} (ht : headerTests s.store.array = none) (hn : (readHeader s.store.array).items ≠ 0) :
    let t := s.startLoad .host
    t.store.load.state = .running ∧ t.store.load.source = some .host ∧ t.store.load.phase = some .apply ∧
      t.store.load.next = some ⟨0, 16⟩ ∧ t.store.load.applied = 0 ∧ t.store.load.rejected = 0 ∧
      t.store.array = s.store.array ∧ (∀ i e, (t.slot i).entry = some e → e.origin = .host) ∧
      (∀ i e, (s.slot i).entry = some e → e.origin = .host → t.slot i = s.slot i) ∧
      t.calendar.records = s.calendar.records.filter fun r => r.origin != .store := by
  rw [startLoad_of_good .host ht, retired_array, if_neg hn]
  simp only [retired_load, retired_slot]
  exact ⟨rfl, rfl, trivial, rfl, rfl, rfl, retired_array s .host, fun i e => unstored_origin, fun i e => unstored_of_host,
    retired_records s .host⟩

/-- A good store without items: its load is DONE at once. -/
theorem startLoad_completes {s : State} (ht : headerTests s.store.array = none) (hn : (readHeader s.store.array).items = 0) :
    let t := s.startLoad .host
    t.store.load.state = .done ∧ t.store.load.source = some .host ∧ t.store.load.phase = none ∧ t.store.load.next = none ∧
      t.store.load.applied = 0 ∧ t.store.load.rejected = 0 ∧ t.supply.loadPending = false ∧ t.Reports .system 0 5 := by
  rw [startLoad_of_good .host ht, retired_array, if_pos hn]
  exact ⟨rfl, rfl, rfl, rfl, rfl, rfl, rfl, completeLoad_reports _⟩

/-- The header's tests, in their order. -/
theorem headerTests_in_order (array : List Host.Cell) :
    (¬ MarkerOk array → headerTests array = some .marker) ∧
    (MarkerOk array → ¬ FormatOk array → headerTests array = some .format) ∧
    (MarkerOk array → FormatOk array → 2032 < (readHeader array).length → headerTests array = some .length) ∧
    (MarkerOk array → FormatOk array → (readHeader array).length ≤ 2032 →
      (crc16 (readCells array 16 (readHeader array).length)).toNat ≠ readWord array 7 → headerTests array = some .crc) ∧
    (MarkerOk array → FormatOk array → (readHeader array).length ≤ 2032 →
      (crc16 (readCells array 16 (readHeader array).length)).toNat = readWord array 7 → ¬ ItemChain array (readHeader array) →
      headerTests array = some .chain) ∧
    (MarkerOk array → FormatOk array → (readHeader array).length ≤ 2032 →
      (crc16 (readCells array 16 (readHeader array).length)).toNat = readWord array 7 → ItemChain array (readHeader array) →
      headerTests array = none) := by
  refine ⟨fun hm => headerTests_of_front (frontTests_of_marker hm), fun hm hf => headerTests_of_front (frontTests_of_format hm hf),
    fun hm hf hl => headerTests_of_front (by rw [frontTests_of_ok hm hf, if_pos hl]), fun hm hf hl hc => ?_,
    fun hm hf hl hc hi => ?_, fun hm hf hl hc hi => ?_⟩
  · rw [headerTests_of_length hm hf hl, if_pos (bne_iff_ne.mpr hc)]
  · rw [headerTests_of_length hm hf hl, if_neg (by simpa using hc), if_neg fun h => hi ((chainOk_iff_itemChain _ _).mp h)]
  · rw [headerTests_of_length hm hf hl, if_neg (by simpa using hc), if_pos ((chainOk_iff_itemChain _ _).mpr hi)]

/-- An entry item is judged as CREATE_ENTRY judges its body (R25). -/
theorem entryItem_judged {u : State} {p : List Byte} {b : EntryBody} (hp : bodyLengthOk p = true) (hb : readBody p = some b) :
    (u.judge b = .expired → entryItem p u = .error .expiredAlready) ∧
    (u.judge b ≠ .expired → ∀ i t, u.chooseSlot = some (i, t) →
      entryItem p u = .ok (((t.setEntry i (u.newEntry .store b)).raiseEntry i .loaded).catchUp i)) ∧
    (u.judge b ≠ .expired → u.chooseSlot = none → entryItem p u = .error .tableFull) :=
  ⟨fun hj => entryItem_of_error hp hb (makeEntry_of_expired .store hj),
    fun hj _ _ hc => entryItem_of_ok hp hb (makeEntry_of_slot .store hj hc),
    fun hj hc => entryItem_of_error hp hb (makeEntry_of_no_slot .store hj hc)⟩

/-- An exception item is judged as ADD_EXCEPTION judges its record (R55, R59). -/
theorem addRecord_judged (u : State) (o : Origin) (x : ExceptionSpan × DayClass) :
    let r : ExceptionRecord := ⟨x.1, x.2, o⟩
    let past := u.time.validity = .valid ∧ r.keptOn u.today = false
    let clash := u.calendar.records.any fun y => y.span.conflicts r.span
    (past → u.addRecord o x = .error .badField) ∧
    (¬ past → clash = true → u.addRecord o x = .error .overlap) ∧
    (¬ past → clash = false → 48 ≤ u.calendar.records.length → u.addRecord o x = .error .calendarFull) ∧
    (¬ past → clash = false → u.calendar.records.length < 48 →
      u.addRecord o x = .ok (((u.setCalendar { u.calendar with
        records := insertException r u.calendar.records }).recomputeToday).raiseCalendar .changed)) := by
  intro r past clash
  have hpast : (u.timeValid && r.lapsed u.today) = true ↔ past := addRecord_past_iff r
  unfold State.addRecord
  dsimp only
  refine ⟨fun hp => ?_, fun hp hc => ?_, fun hp hc (hn : Config.calendarRecords ≤ _) => ?_,
    fun hp hc (hn : _ < Config.calendarRecords) => ?_⟩
  · rw [if_pos (hpast.mpr hp)]
  · rw [if_neg fun h => hp (hpast.mp h), if_pos hc]
  · rw [if_neg fun h => hp (hpast.mp h), if_neg (Bool.eq_false_iff.mp hc), if_pos hn]
  · rw [if_neg fun h => hp (hpast.mp h), if_neg (Bool.eq_false_iff.mp hc), if_neg (Nat.not_le.mpr hn)]

/-- The press state that a BUTTON item gives (R104, R107). -/
def State.newPress (u : State) (b : ButtonNo) (enabled : Bool) : PressState :=
  if !enabled then .released
  else if (u.button b).enabled then (u.button b).press
  else if u.supply.state = .backup then .released
  else (u.button b).atExamination

theorem applyButton_eq (u : State) (b : ButtonNo) (set : Word) (ending : OverrideEnding) (enabled : Bool) :
    u.applyButton b set ending enabled = u.setButton b { u.button b with
      channels := set, ending := ending, enabled := enabled, press := u.newPress b enabled } := rfl

/-- Settles O56: the start of a load, the header's tests, each type of item, and the step, by their own lemmas. -/
theorem loadsRun : Obligations.LoadsRun := by
  refine ⟨fun s tag p hs hp => ?_, fun array => ?_, fun u type p => ⟨applyItem_unknown, applyItem_of_length⟩,
    fun u n k r a o l w d1 d0 => ?_, fun u p hp => ?_, fun u head f1 f2 f3 l1 l2 l3 => ?_, fun u e1 e0 l1 l0 c => ?_,
    fun u n hi lo e m1 m0 on => ?_, fun u x y => ?_, fun s dt n h => ?_⟩
  · refine ⟨fun hne => ?_, fun hl r ht => ?_, fun hl ht hn => ?_, fun hl ht hn => ?_, fun hne => ?_, ?_⟩
    · exact congrArg Host.Outcome.next (submit_refused hs hp (by decide) (cmdLoadDefaults_of_parameters hne))
    · refine ⟨{ LoadRecord.fresh .host s.store.array s.osc with
        state := .storeBad, phase := none, next := none, badReason := some r }, rfl, rfl, rfl, rfl, rfl, rfl, rfl, ?_⟩
      rw [exec_loadDefaults hs hl, startLoad_of_bad .host ht, endLoad_eq]
    · exact ⟨_, exec_loadDefaults hs hl tag, startLoad_retires ht hn⟩
    · exact ⟨_, exec_loadDefaults hs hl tag, startLoad_completes ht hn⟩
    · refine congrArg Host.Outcome.next (submit_refused hs hp (by decide) ?_)
      show cmdLoadStatus p s = _
      rw [cmdLoadStatus, List.isEmpty_eq_false_iff.mpr hne, check_false]
    · exact congrArg Host.Outcome.next (submit_replied hs (by simp) (by decide) (by decide) rfl)
  · exact ⟨rfl, headerTests_in_order array⟩
  · refine ⟨fun hbad => applyItem_channel_error (configureItem_of_unread hbad), fun c cfg hc hg => ?_⟩
    refine ⟨fun hf => applyItem_channel_error (configureItem_of_inFlight hc hg hf),
      fun hf => ⟨u.applyConfig c cfg, applyItem_channel_ok (configureItem_of_read hc hg hf), ?_⟩⟩
    have hon := applyConfig_onChannels u c cfg
    refine ⟨(setChan_same u c _).trans hon.same, hon.table, hon.calendar, hon.freeCount, fun d hd => ?_, applyConfig_config u c cfg,
      applyConfig_claims u c cfg, applyConfig_target u c cfg⟩
    rw [hon.others d hd, chan_setChan, if_neg (Ne.symm hd)]
  · refine ⟨entryItem_of_unread hp, fun b hb => ?_⟩
    obtain ⟨hexpired, hmade, hfull⟩ := entryItem_judged (u := u) hp hb
    refine ⟨hexpired, fun hj i hi hlow => hmade hj i u (chooseSlot_of_free hi hlow), fun hj hf => ⟨fun j rest ho => ?_, fun ho => ?_⟩⟩
    · exact hmade hj j _ (by rw [chooseSlot_of_full hf, ho]; rfl)
    · exact hfull hj (by rw [chooseSlot_of_full hf, ho]; rfl)
  · refine ⟨addExceptionItem_of_unread, fun x hx => ?_⟩
    have hitem : applyItem 3 [head, f1, f2, f3, l1, l2, l3] u = u.addRecord .store x := addExceptionItem_of_read hx
    rw [hitem]
    exact addRecord_judged u .store x
  · exact ⟨lightLimitsItem_of_bad, lightLimitsItem_of_ok⟩
  · refine ⟨fun hbad => applyItem_button_error (buttonItem_of_bad hbad), fun b en flag hb hen hon hset => ?_⟩
    refine ⟨u.newPress b flag, applyItem_button_ok ((buttonItem_of_ok hb hen hon hset).trans (by rw [applyButton_eq])), fun hf => ?_, fun hf he => ?_,
      fun hf he hback => ?_⟩
    · simp [State.newPress, hf]
    · simp [State.newPress, hf, he]
    · simp [State.newPress, hf, he, hback, Button.atExamination]
  · exact ⟨lineConfirmItem_of_bad, lineConfirmItem_of_ok, supplyItem_of_bad, supplyItem_of_ok, timeSourceItem_of_value, rfl, rfl⟩
  · have hexec : exec (.loadStep dt) s = .next (s.elapse dt).loadStep := rfl
    generalize exec (.loadStep dt) s = r at hexec ⊢
    generalize s.elapse dt = u at hexec ⊢
    subst hexec
    intro _ l type length outcome next hstate hphase hnext hh hdue
    have hd := loadStepDue_of_due hstate hphase hnext hdue
    refine ⟨fun v hv hn => ?_, fun r hr hn => ?_, fun v hv hn => ?_, fun r hr hn => ?_⟩
    · exact congrArg Host.Outcome.next (loadStep_of_more hd (takeItem_of_ok hv) hh hn)
    · exact congrArg Host.Outcome.next (loadStep_of_more hd (takeItem_of_error hr) hh hn)
    · exact congrArg Host.Outcome.next (loadStep_of_last hd (takeItem_of_ok hv) hh hn)
    · exact congrArg Host.Outcome.next (loadStep_of_last hd (takeItem_of_error hr) hh hn)

end Sys2Proof.Machine
end

/-! LUX_SAMPLE (R111 to R117): the sample in the Light Monitor, then DUSK and DAWN at an entry alone in the table (R36, R37). -/

section
namespace Sys2Proof.Machine

section
variable {l : LightMonitor} {v n : Nat}

/-! ## The classes of a sample (R111) -/

theorem railSample_iff : railSample v = true ↔ v = 0 ∨ v = 1023 := by simp [railSample]

theorem railSample_of_inRange (h0 : v ≠ 0) (h1 : v ≠ 1023) : railSample v = false := by simp [railSample, h0, h1]

theorem classOf_eq_dark_iff : l.classOf v = .dark ↔ v < l.darkEnter := by
  unfold LightMonitor.classOf
  split
  · simp [*]
  · split <;> simp [*]

theorem classOf_of_between (he : l.darkEnter ≤ v) (hl : v < l.darkLeave) : l.classOf v = .between := by
  rw [LightMonitor.classOf, if_neg (Nat.not_lt.mpr he), if_pos hl]

theorem classOf_eq_bright_iff (ok : l.Ok) : l.classOf v = .bright ↔ l.darkLeave ≤ v := by
  obtain ⟨horder, -⟩ := ok.limits
  unfold LightMonitor.classOf
  split
  · simp; omega
  · split <;> simp <;> omega

/-! ## The fault test (R116) -/

/-- The Light Monitor with a sample taken and its fault counter at 0, before the sample is classified. -/
def LightMonitor.seen (l : LightMonitor) (v : Nat) : LightMonitor :=
  { l with lastSample := some v, nextSample := l.nextSample + Config.second, faults := 0 }

/-- Outside FAULT the test leaves an in-range sample for classification. -/
theorem sample_of_inRange (hl : l.state ≠ .fault) (hv : railSample v = false) :
    l.sample v = (l.seen v).classify (l.classOf v) := by
  simp [LightMonitor.sample, LightMonitor.faultTest, LightMonitor.seen, LightMonitor.classOf, hl, hv]

theorem sample_of_rail_fault (hl : l.state ≠ .fault) (hv : railSample v = true) (hf : l.faults = 29) :
    l.sample v = ({ l.seen v with state := .fault, confirm := 0, side := .none }, none) := by
  simp [LightMonitor.sample, LightMonitor.faultTest, LightMonitor.restart, LightMonitor.seen, hl, hv, hf]

theorem sample_of_rail_counted (hl : l.state ≠ .fault) (hv : railSample v = true) (hf : l.faults < 29) :
    l.sample v = ({ l.seen v with faults := l.faults + 1 }, none) := by
  simp [LightMonitor.sample, LightMonitor.faultTest, LightMonitor.seen, hl, hv, Nat.not_le.mpr hf]

theorem sample_of_fault_rail (hl : l.state = .fault) (hv : railSample v = true) : l.sample v = (l.seen v, none) := by
  simp [LightMonitor.sample, LightMonitor.faultTest, LightMonitor.seen, hl, hv]

theorem sample_of_fault_left (hl : l.state = .fault) (hv : railSample v = false) (hf : l.faults = 29) :
    l.sample v = ({ l.seen v with state := .unknown, confirm := 0, side := .none }, none) := by
  simp [LightMonitor.sample, LightMonitor.faultTest, LightMonitor.restart, LightMonitor.seen, hl, hv, hf]

theorem sample_of_fault_counted (hl : l.state = .fault) (hv : railSample v = false) (hf : l.faults < 29) :
    l.sample v = ({ l.seen v with faults := l.faults + 1 }, none) := by
  simp [LightMonitor.sample, LightMonitor.faultTest, LightMonitor.seen, hl, hv, Nat.not_le.mpr hf]

/-! ## Runs (R113 to R115) -/

section
variable {running settled : LightState} {side : LightSide} {ev : LightEvent}

theorem run_of_reached (h : l.confirmCount ≤ n) :
    l.run n running settled ev = ({ l with state := settled, confirm := 0 }, some ev) := by rw [LightMonitor.run, if_pos h]

theorem run_of_begun (h : n < l.confirmCount) :
    l.run n running settled ev = ({ l with state := running, confirm := n }, none) := by
  rw [LightMonitor.run, if_neg (Nat.not_le.mpr h)]

/-- A run short of C that goes on in its own state only counts. -/
theorem run_of_counted (hl : l.state = running) (h : n < l.confirmCount) :
    l.run n running settled ev = ({ l with confirm := n }, none) := by rw [run_of_begun h, ← hl]

theorem resolve_of_reached (h : l.confirmCount ≤ n) :
    l.resolve n side settled = ({ l with state := settled, confirm := 0, side := .none }, none) := by
  rw [LightMonitor.resolve, if_pos h]

theorem resolve_of_counted (h : n < l.confirmCount) :
    l.resolve n side settled = ({ l with confirm := n, side := side }, none) := by
  rw [LightMonitor.resolve, if_neg (Nat.not_le.mpr h)]

end

/-! ## An in-range sample in each state (R113 to R115) -/

/-- A dark sample makes or carries on the run toward DUSK. -/
theorem sample_toward_dusk (hl : (l.state = .day ∧ n = 1) ∨ (l.state = .dusking ∧ n = l.confirm + 1))
    (hv : railSample v = false) (hc : v < l.darkEnter) : l.sample v = (l.seen v).run n .dusking .night .dusk := by
  have hdark := classOf_eq_dark_iff.mpr hc
  obtain ⟨hl, rfl⟩ | ⟨hl, rfl⟩ := hl <;>
    simp [sample_of_inRange (l := l) (by simp [hl]) hv, LightMonitor.classify, LightMonitor.seen, hl, hdark]

/-- A bright sample makes or carries on the run toward DAWN. -/
theorem sample_toward_dawn (hl : (l.state = .night ∧ n = 1) ∨ (l.state = .dawning ∧ n = l.confirm + 1))
    (hv : railSample v = false) (hc : l.classOf v = .bright) : l.sample v = (l.seen v).run n .dawning .day .dawn := by
  obtain ⟨hl, rfl⟩ | ⟨hl, rfl⟩ := hl <;>
    simp [sample_of_inRange (l := l) (by simp [hl]) hv, LightMonitor.classify, LightMonitor.seen, hl, hc]

/-- A sample of the other side gives a run up. -/
theorem sample_turned_back {back : LightState} (hv : railSample v = false)
    (hl : (l.state = .dusking ∧ back = .day ∧ l.classOf v = .bright) ∨
      (l.state = .dawning ∧ back = .night ∧ l.classOf v = .dark)) :
    l.sample v = ({ l.seen v with state := back, confirm := 0 }, none) := by
  obtain ⟨hl, rfl, hc⟩ | ⟨hl, rfl, hc⟩ := hl <;>
    simp [sample_of_inRange (l := l) (by simp [hl]) hv, LightMonitor.classify, LightMonitor.seen, hl, hc]

/-- A sample that leads toward no event leaves a settled state, and a between sample a run. -/
theorem sample_kept (hv : railSample v = false)
    (hl : (l.state = .night ∧ l.classOf v ≠ .bright) ∨ (l.state = .day ∧ l.classOf v ≠ .dark) ∨
      ((l.state = .dusking ∨ l.state = .dawning) ∧ l.classOf v = .between)) : l.sample v = (l.seen v, none) := by
  have hstate : (l.seen v).state = l.state := rfl
  have hfault : l.state ≠ .fault := by rintro hf; simp [hf] at hl
  rw [sample_of_inRange hfault hv]
  unfold LightMonitor.classify
  obtain ⟨hl, hc⟩ | ⟨hl, hc⟩ | ⟨hl | hl, hc⟩ := hl
  · cases hk : l.classOf v <;> simp_all
  · cases hk : l.classOf v <;> simp_all
  · simp [hstate, hl, hc]
  · simp [hstate, hl, hc]

/-- In UNKNOWN a sample of a side counts for it, from 1 when the side is new. -/
theorem sample_of_unknown {side : LightSide} {settled : LightState} (hl : l.state = .unknown) (hv : railSample v = false)
    (hc : (side = .dark ∧ settled = .night ∧ l.classOf v = .dark) ∨ (side = .bright ∧ settled = .day ∧ l.classOf v = .bright)) :
    l.sample v = (l.seen v).resolve (if l.side = side then l.confirm + 1 else 1) side settled := by
  rw [sample_of_inRange (by simp [hl]) hv]
  obtain ⟨rfl, rfl, hc⟩ | ⟨rfl, rfl, hc⟩ := hc <;> simp [LightMonitor.classify, LightMonitor.seen, hl, hc]

theorem sample_of_unknown_between (hl : l.state = .unknown) (hv : railSample v = false) (hc : l.classOf v = .between) :
    l.sample v = ({ l.seen v with confirm := 0, side := .none }, none) := by
  simp [sample_of_inRange (l := l) (by simp [hl]) hv, LightMonitor.classify, LightMonitor.seen, hl, hc]

end

/-! ## The row (R111, R117) -/

theorem updateLight_of_same {s : State} {l : LightMonitor} (h : l.state = s.light.state) : s.updateLight l = s.setLight l := by
  simp only [State.updateLight, h, if_true]

theorem updateLight_of_changed {s : State} {l : LightMonitor} (h : l.state ≠ s.light.state) :
    s.updateLight l = (s.setLight l).raiseSystem .light := by
  simp only [State.updateLight, h, if_false]

theorem sampleDue_of_due {s : State} (hb : s.supply.state ≠ .backup) (hr : s.time.crystalRunning = true)
    (hn : s.light.nextSample ≤ s.cycles) : s.sampleDue = true := by
  simp [State.sampleDue, hb, hr, hn]

section
variable {s : State} {dt v : Nat} {l : LightMonitor}

theorem exec_luxSample (hv : v < 1024) : exec (.luxSample dt v) s = .next ((s.elapse dt).luxSample v) := by
  show Host.Outcome.next ((s.elapse dt).luxSample (v % 1024)) = _
  rw [Nat.mod_eq_of_lt hv]

/-- A sample that leaves the light state changes the Light Monitor alone. -/
theorem exec_luxSample_of_same (hd : (s.elapse dt).sampleDue = true) (hv : v < 1024)
    (hs : (s.elapse dt).light.sample v = (l, none)) (hl : l.state = (s.elapse dt).light.state) :
    exec (.luxSample dt v) s = .next ((s.elapse dt).setLight l) := by
  rw [exec_luxSample hv, State.luxSample, if_pos hd, hs]
  exact congrArg Host.Outcome.next (updateLight_of_same hl)

/-- A change of the light state without an event adds LIGHT. -/
theorem exec_luxSample_of_changed {x : LightState} (hd : (s.elapse dt).sampleDue = true) (hv : v < 1024)
    (hx : (s.elapse dt).light.state = x) (hs : (s.elapse dt).light.sample v = (l, none)) (hl : l.state ≠ x) :
    exec (.luxSample dt v) s = .next (((s.elapse dt).setLight l).raiseSystem .light) := by
  rw [exec_luxSample hv, State.luxSample, if_pos hd, hs]
  exact congrArg Host.Outcome.next (updateLight_of_changed (hx ▸ hl))

/-- DUSK or DAWN is recorded, LIGHT added, and the event handed to the Schedule Table. -/
theorem exec_luxSample_of_event {ev : LightEvent} (hd : (s.elapse dt).sampleDue = true) (hv : v < 1024)
    (hs : (s.elapse dt).light.sample v = (l, some ev)) (hl : l.state ≠ (s.elapse dt).light.state) :
    exec (.luxSample dt v) s = .next ((((s.elapse dt).setLight
      { l with lastEvent := some (ev, (s.elapse dt).now) }).raiseSystem .light).lightEvent ev) := by
  rw [exec_luxSample hv, State.luxSample, if_pos hd, hs]
  exact congrArg (fun t => Host.Outcome.next (State.lightEvent t ev)) (updateLight_of_changed hl)

/-- The dark sample that completes a run is DUSK. -/
theorem exec_luxSample_of_dusk {n : Nat} (hd : (s.elapse dt).sampleDue = true) (hv : v < 1024) (hin : railSample v = false)
    (hl : ((s.elapse dt).light.state = .day ∧ n = 1) ∨ ((s.elapse dt).light.state = .dusking ∧ n = (s.elapse dt).light.confirm + 1))
    (hc : v < (s.elapse dt).light.darkEnter) (hn : (s.elapse dt).light.confirmCount ≤ n) :
    exec (.luxSample dt v) s = .next ((((s.elapse dt).setLight { (s.elapse dt).light.seen v with
      state := .night, confirm := 0, lastEvent := some (.dusk, (s.elapse dt).now) }).raiseSystem .light).lightEvent .dusk) := by
  have hs := (sample_toward_dusk hl hin hc).trans (run_of_reached hn)
  have hne : LightState.night ≠ (s.elapse dt).light.state := by obtain ⟨h, -⟩ | ⟨h, -⟩ := hl <;> simp [h]
  have hexec := exec_luxSample_of_event hd hv hs hne
  exact hexec

/-- The bright sample that completes a run is DAWN. -/
theorem exec_luxSample_of_dawn {n : Nat} (hd : (s.elapse dt).sampleDue = true) (hv : v < 1024) (hin : railSample v = false)
    (hl : ((s.elapse dt).light.state = .night ∧ n = 1) ∨
      ((s.elapse dt).light.state = .dawning ∧ n = (s.elapse dt).light.confirm + 1))
    (hc : (s.elapse dt).light.classOf v = .bright) (hn : (s.elapse dt).light.confirmCount ≤ n) :
    exec (.luxSample dt v) s = .next ((((s.elapse dt).setLight { (s.elapse dt).light.seen v with
      state := .day, confirm := 0, lastEvent := some (.dawn, (s.elapse dt).now) }).raiseSystem .light).lightEvent .dawn) := by
  have hs := (sample_toward_dawn hl hin hc).trans (run_of_reached hn)
  have hne : LightState.day ≠ (s.elapse dt).light.state := by obtain ⟨h, -⟩ | ⟨h, -⟩ := hl <;> simp [h]
  have hexec := exec_luxSample_of_event hd hv hs hne
  exact hexec

end

/-! ## A light event at one slot (R36, R37) -/

/-- A light event offers the entry a start, its state and count apart: its trigger is the event's, it has not started today, today is an
eligible day, and VALID time lies within its dates and its window (R37). -/
def State.LightFits (s : State) (ev : LightEvent) (e : Entry) : Prop :=
  e.body.trigger = ev.trigger ∧ e.lastStart ≠ some s.today ∧ e.body.eligible s.today s.calendar.todayClass = true ∧
    (s.time.validity = .valid → e.body.inForce s.today = true ∧ e.body.windowAdmits s.now.tod = true)

section
variable {s : State} {i : SlotNo} {gen : Byte} {e : Entry} {ev : LightEvent} {k : ClaimState} {m : Bool}

theorem State.Touches.lightFits_iff {C : Chan → Prop} {t : State} (h : s.Touches i C t) : t.LightFits ev e ↔ s.LightFits ev e := by
  simp only [State.LightFits, h.today, h.now, h.calendar, h.same.time]

theorem lightEndSlot_of_free (hi : (s.slot i).entry = none) : s.lightEndSlot ev i = s := by
  unfold State.lightEndSlot
  simp only [hi]

theorem lightEndSlot_of_entry (hi : s.slot i = ⟨gen, some e⟩) :
    s.lightEndSlot ev i = if e.body.ending = ev.ends then s.endClaim i else s := by
  unfold State.lightEndSlot
  simp only [hi, beq_iff_eq]

theorem lightEndSlot_stage (ev : LightEvent) : SlotStage (State.lightEndSlot ev) :=
  .of_entry (fun _ _ h => lightEndSlot_of_free h) fun s i _ _ hi => by
    rw [lightEndSlot_of_entry hi]
    split
    · exact (endClaim_touches hi).mono fun _ _ => trivial
    · exact .refl s

theorem lightStartSlot_of_free (hi : (s.slot i).entry = none) : s.lightStartSlot ev i = s := by
  unfold State.lightStartSlot
  simp only [hi]

/-- The starts stage offers a start exactly to an entry whose state and count allow it and that fits the event. -/
theorem lightStartSlot_cases (hi : s.slot i = ⟨gen, some e⟩) :
    ((e.offered = true ∧ s.LightFits ev e) ∧ s.lightStartSlot ev i = s.start i none) ∨
      (¬ (e.offered = true ∧ s.LightFits ev e) ∧ s.lightStartSlot ev i = s) := by
  have hcond : (e.body.trigger == ev.trigger && e.offered && e.freshToday s.today &&
      e.body.eligible s.today s.calendar.todayClass &&
      (!s.timeValid || (e.body.inForce s.today && e.body.windowAdmits s.now.tod))) = true ↔ e.offered = true ∧ s.LightFits ev e := by
    by_cases hv : s.time.validity = .valid <;>
      simp [State.LightFits, Entry.freshToday, State.timeValid, hv] <;> tauto
  unfold State.lightStartSlot
  simp only [hi, hcond]
  split
  · next h => exact .inl ⟨hcond.mp h, rfl⟩
  · next h => exact .inr ⟨fun hx => h (hcond.mpr hx), rfl⟩

theorem lightStartSlot_of_fits (hi : s.slot i = ⟨gen, some e⟩) (ho : e.offered = true) (hf : s.LightFits ev e) :
    s.lightStartSlot ev i = s.start i none :=
  ((lightStartSlot_cases hi).resolve_right fun h => h.1 ⟨ho, hf⟩).2

theorem lightStartSlot_of_unfit (hi : s.slot i = ⟨gen, some e⟩) (h : ¬ s.LightFits ev e ∨ e.offered = false) :
    s.lightStartSlot ev i = s :=
  ((lightStartSlot_cases hi).resolve_left fun ⟨⟨ho, hf⟩, _⟩ => h.elim (fun hn => hn hf) fun hn => by simp [hn] at ho).2

theorem lightStartSlot_stage (ev : LightEvent) : SlotStage (State.lightStartSlot ev) :=
  .of_entry (fun _ _ h => lightStartSlot_of_free h) fun s i _ _ hi => by
    obtain ⟨-, h⟩ | ⟨-, h⟩ := lightStartSlot_cases (ev := ev) hi <;> rw [h]
    · exact (start_touches hi none).mono fun _ _ => trivial
    · exact .refl s

/-! ## A light event at an entry alone in the table (R36, R37, R41) -/

theorem lightEvent_alone (h : s.Alone i gen e) (ev : LightEvent) :
    s.lightEvent ev = (s.lightEndSlot ev i).lightStartSlot ev i := by
  have hends := (lightEndSlot_stage ev).forEach_alone h.othersFree
  have hothers := ((lightEndSlot_stage ev).touches s i).othersFree h.othersFree
  rw [State.lightEvent, hends, (lightStartSlot_stage ev).forEach_alone hothers]

/-- An entry with no claim that waits for the event meets the starts alone. -/
theorem lightEvent_of_not_waiting (h : s.Alone i gen e) (hn : e.state.isActive = false ∨ e.body.ending ≠ ev.ends) :
    s.lightEvent ev = s.lightStartSlot ev i := by
  rw [lightEvent_alone h, lightEndSlot_of_entry h.1]
  split
  · next hw => rw [endClaim_of_not_active h.1 (hn.resolve_right fun hne => hne hw)]
  · rfl

/-- An entry whose claim waits for the event meets the starts as its claim's end leaves it. -/
theorem lightEvent_of_waiting (h : s.Alone i gen e) (hw : e.body.ending = ev.ends) :
    s.lightEvent ev = (s.endClaim i).lightStartSlot ev i := by
  rw [lightEvent_alone h, lightEndSlot_of_entry h.1, if_pos hw]

/-- No start follows the end of a claim whose entry is ENDED by it, or is offered none. -/
theorem lightEvent_of_ended (h : s.Alone i gen e) (he : e.state = .active k m) (hw : e.body.ending = ev.ends)
    (hn : e.body.count = some 0 ∨ m = true ∨ ¬ s.LightFits ev e) : s.lightEvent ev = s.endClaim i := by
  have hfits := (endClaim_touches h.1).lightFits_iff (ev := ev) (e := e)
  rw [lightEvent_of_waiting h hw]
  refine lightStartSlot_of_unfit (endClaim_slot h.1 he) ?_
  obtain hc | hm | hf := hn
  · exact .inr (offered_of_ended (afterEnd_isEnded (.inl hc)))
  · exact .inr (offered_of_ended (afterEnd_isEnded (.inr hm)))
  · exact .inl fun hx => hf (hfits.mp hx)

/-- An entry back to ARMED by the event that is also offered a start starts again: its records are free. -/
theorem lightEvent_of_ended_started (h : s.Alone i gen e) (he : e.state = .active k m) (hw : e.body.ending = ev.ends)
    (hc : e.body.count ≠ some 0) (hm : m = false) (hf : s.LightFits ev e) :
    (s.lightEvent ev).slot i = ⟨gen, some (e.started s.now none false)⟩ ∧
      ∀ c ∈ channelsOf e.body.channels, e.body.claim i gen s.now ∈ ((s.lightEvent ev).chan c).claims := by
  have ht := endClaim_touches h.1
  have hslot := endClaim_slot h.1 he
  have hpool : setSize e.body.channels ≤ (s.endClaim i).freeCount := endClaim_freeCount h.1 he ▸ Nat.le_add_left ..
  rw [afterEnd_of_armed hc hm] at hslot
  rw [lightEvent_of_waiting h hw, lightStartSlot_of_fits hslot rfl (ht.lightFits_iff.mpr hf), ← ht.now]
  exact ⟨start_armed_slot hslot rfl hpool none, fun c hx => start_armed_placed hslot rfl hpool none hx⟩

/-- An entry offered a start by the event, its claim, if it has one, going on. -/
theorem lightEvent_of_started (h : s.Alone i gen e) (hn : e.state.isActive = false ∨ e.body.ending ≠ ev.ends)
    (ho : e.offered = true) (hf : s.LightFits ev e) : s.lightEvent ev = s.start i none := by
  rw [lightEvent_of_not_waiting h hn, lightStartSlot_of_fits h.1 ho hf]

theorem lightEvent_of_armed (h : s.Alone i gen e) (he : e.state = .armed) (hf : s.LightFits ev e) :
    s.lightEvent ev = s.start i none := lightEvent_of_started h (.inl (by rw [he]; rfl)) (by rw [Entry.offered, he]) hf

end

/-! ## The obligation -/

/-- Settles O43: a sample by the state and its class, then the event by the state of the entry. -/
theorem sampleIsClassified : Obligations.SampleIsClassified := by
  refine ⟨?_, ?_, fun _ _ => rfl, ?_⟩
  · intro s dt v u l seen hb hr hn hv
    have hdue : u.sampleDue = true := sampleDue_of_due hb hr hn
    refine ⟨fun hl h0 h1 hd hc => ?_, fun hl h0 h1 hd hc => ?_, fun hl hside h0 h1 hd hc => ?_, fun hl hrail hf => ?_,
      fun hl hrail hf => ?_⟩
    · exact exec_luxSample_of_dusk hdue hv (railSample_of_inRange h0 h1) (.inr ⟨hl, rfl⟩) hd hc
    · exact exec_luxSample_of_same hdue hv
        ((sample_toward_dusk (.inr ⟨hl, rfl⟩) (railSample_of_inRange h0 h1) hd).trans (run_of_counted hl hc)) rfl
    · have hrun := sample_of_unknown hl (railSample_of_inRange h0 h1) (.inl ⟨rfl, rfl, classOf_eq_dark_iff.mpr hd⟩)
      rw [if_pos hside] at hrun
      exact exec_luxSample_of_changed hdue hv hl (hrun.trans (resolve_of_reached hc)) nofun
    · exact exec_luxSample_of_changed hdue hv rfl (sample_of_rail_fault hl (railSample_iff.mpr hrail) hf) hl.symm
    · exact exec_luxSample_of_same hdue hv (sample_of_rail_counted hl (railSample_iff.mpr hrail) hf) rfl
  · intro s dt v u l seen sampled changed hb hr hn ok h0 h1
    have hdue : u.sampleDue = true := sampleDue_of_due hb hr hn
    have hv : v < 1024 := by omega
    have hin : railSample v = false := railSample_of_inRange h0 (Nat.ne_of_lt h1)
    have hbright : l.darkLeave ≤ v → l.classOf v = .bright := (classOf_eq_bright_iff ok).mpr
    refine ⟨fun hl hd hc => ?_, fun hl hd hc => ?_, fun hl hd => ?_, fun hl hd hc => ?_, fun h => ?_, fun hl hd hc => ?_,
      fun hl hd => ?_, fun h => ?_, fun side settled hl h => ?_, fun hl he hlv => ?_,
      fun hl hf => ?_, fun hl hf => ?_, fun rail hrail hl => ?_⟩
    · exact exec_luxSample_of_changed hdue hv hl ((sample_toward_dusk (.inl ⟨hl, rfl⟩) hin hd).trans (run_of_begun hc)) nofun
    · exact exec_luxSample_of_dusk hdue hv hin (.inl ⟨hl, rfl⟩) hd hc.le
    · exact exec_luxSample_of_changed hdue hv hl (sample_turned_back hin (.inl ⟨hl, rfl, hbright hd⟩)) nofun
    · exact exec_luxSample_of_changed hdue hv hl
        ((sample_toward_dawn (.inl ⟨hl, rfl⟩) hin (hbright hd)).trans (run_of_begun hc)) nofun
    · obtain ⟨hl, hd, hc⟩ | ⟨hl, hd, hc⟩ := h
      · exact exec_luxSample_of_dawn hdue hv hin (.inl ⟨hl, rfl⟩) (hbright hd) hc.le
      · exact exec_luxSample_of_dawn hdue hv hin (.inr ⟨hl, rfl⟩) (hbright hd) hc
    · exact exec_luxSample_of_same hdue hv
        ((sample_toward_dawn (.inr ⟨hl, rfl⟩) hin (hbright hd)).trans (run_of_counted hl hc)) rfl
    · exact exec_luxSample_of_changed hdue hv hl (sample_turned_back hin (.inr ⟨hl, rfl, classOf_eq_dark_iff.mpr hd⟩)) nofun
    · refine exec_luxSample_of_same hdue hv (sample_kept hin ?_) rfl
      obtain ⟨hl, hd⟩ | ⟨hl, hd⟩ | ⟨hl, hd, hd'⟩ := h
      · exact .inl ⟨hl, fun hx => absurd ((classOf_eq_bright_iff ok).mp hx) (Nat.not_le.mpr hd)⟩
      · exact .inr (.inl ⟨hl, fun hx => absurd (classOf_eq_dark_iff.mp hx) (Nat.not_lt.mpr hd)⟩)
      · exact .inr (.inr ⟨hl, classOf_of_between hd hd'⟩)
    · have hrun := sample_of_unknown hl hin (h.imp (fun ⟨a, b, hd⟩ => ⟨a, b, classOf_eq_dark_iff.mpr hd⟩)
        fun ⟨a, b, hd⟩ => ⟨a, b, hbright hd⟩)
      have hsettled : settled ≠ .unknown := by obtain ⟨-, rfl, -⟩ | ⟨-, rfl, -⟩ := h <;> decide
      exact ⟨fun hc => exec_luxSample_of_same hdue hv (hrun.trans (resolve_of_counted hc)) rfl,
        fun hc => exec_luxSample_of_changed hdue hv hl (hrun.trans (resolve_of_reached hc)) hsettled⟩
    · exact exec_luxSample_of_same hdue hv (sample_of_unknown_between hl hin (classOf_of_between he hlv)) rfl
    · exact exec_luxSample_of_changed hdue hv hl (sample_of_fault_left hl hin hf) nofun
    · exact exec_luxSample_of_same hdue hv (sample_of_fault_counted hl hin hf) rfl
    · exact exec_luxSample_of_same hdue (by omega) (sample_of_fault_rail hl (railSample_iff.mpr hrail)) rfl
  · intro u ev i gen e h waitsFor trigger fits t at_ placed
    refine ⟨fun k m he hw => ⟨fun hc => ?_, fun hc hm => ?_, fun hc hm hf => ?_, fun hn => ?_, fun hc hm hf => ?_⟩,
      fun k m he hw hf hc => ?_, fun he hf hfree => ?_, fun he hf hfull => ?_, fun hn hf => ?_⟩
    · have ht : t = u.endClaim i := lightEvent_of_ended h he hw (.inl hc)
      simpa only [at_, ht, Entry.afterEnd, if_pos hc] using endClaim_slot h.1 he
    · have ht : t = u.endClaim i := lightEvent_of_ended h he hw (.inr (.inl hm))
      simpa only [at_, ht, Entry.afterEnd, if_neg hc, if_pos hm] using endClaim_slot h.1 he
    · have ht : t = u.endClaim i := lightEvent_of_ended h he hw (.inr (.inr hf))
      simpa only [at_, ht, afterEnd_of_armed hc hm] using endClaim_slot h.1 he
    · have ht : t = u.endClaim i := lightEvent_of_ended h he hw hn
      exact ht ▸ endClaim_noClaims h.1 he
    · exact lightEvent_of_ended_started h he hw hc hm hf
    · have ht : t = u.start i none := lightEvent_of_started h (.inr hw) (by simpa [Entry.offered, he] using hc) hf
      exact ht ▸ ⟨start_active_slot h.1 he hc none, start_active_freeCount h.1 he hc none⟩
    · have ht : t = u.start i none := lightEvent_of_armed h he hf
      exact ⟨ht ▸ start_armed_slot h.1 he hfree none, fun c hc => ht ▸ start_armed_placed h.1 he hfree none hc⟩
    · have ht : t = u.start i none := lightEvent_of_armed h he hf
      exact ht.trans (start_of_missed h.1 he hfull none)
    · exact (lightEvent_of_not_waiting h hn).trans (lightStartSlot_of_unfit h.1 hf)

end Sys2Proof.Machine
end

/-! The records of the Exception Calendar: what a conflict and the list order say (R50, R51), and the edits that a list of records can
undergo (R54 to R56, R59), each of which keeps its invariant. -/

section
namespace Sys2Proof.Machine

/-! ## Conflicts and the list order (R50, R51) -/

theorem conflicts_comm (x y : ExceptionSpan) : x.conflicts y = y.conflicts x := by
  cases x <;> cases y <;> simp [ExceptionSpan.conflicts, Bool.and_comm, Bool.or_comm]

theorem insertException_perm (r : ExceptionRecord) (l : List ExceptionRecord) : (insertException r l).Perm (r :: l) := by
  induction l with
  | nil => exact .refl _
  | cons x xs ih =>
    unfold insertException
    split
    · exact .refl _
    · exact (ih.cons x).trans (.swap r x xs)

theorem insertException_length (r : ExceptionRecord) (l : List ExceptionRecord) :
    (insertException r l).length = l.length + 1 := (insertException_perm r l).length_eq

theorem insertException_ordered (r : ExceptionRecord) {l : List ExceptionRecord}
    (h : l.Pairwise fun x y => x.span.listKey ≤ y.span.listKey) :
    (insertException r l).Pairwise fun x y => x.span.listKey ≤ y.span.listKey := by
  induction l with
  | nil => exact List.pairwise_singleton _ _
  | cons x xs ih =>
    obtain ⟨hx, hxs⟩ := List.pairwise_cons.mp h
    unfold insertException
    split
    · next hlt =>
      refine List.pairwise_cons.mpr ⟨fun y hy => ?_, h⟩
      obtain rfl | hy := List.mem_cons.mp hy
      · exact hlt.le
      · exact hlt.le.trans (hx y hy)
    · next hle =>
      refine List.pairwise_cons.mpr ⟨fun y hy => ?_, ih hxs⟩
      obtain rfl | hy := List.mem_cons.mp ((insertException_perm r xs).mem_iff.mp hy)
      · exact Nat.le_of_not_lt hle
      · exact hx y hy

theorem insertException_apart {r : ExceptionRecord} {l : List ExceptionRecord}
    (hr : (l.any fun y => y.span.conflicts r.span) = false) (h : l.Pairwise fun x y => x.span.conflicts y.span = false) :
    (insertException r l).Pairwise fun x y => x.span.conflicts y.span = false := by
  refine ((insertException_perm r l).pairwise_iff fun hxy => by rwa [conflicts_comm]).mpr
    (List.pairwise_cons.mpr ⟨fun y hy => ?_, h⟩)
  rw [conflicts_comm]
  exact eq_false_of_ne_true (List.any_eq_false.mp hr y hy)

/-! ## Edits of a list of records -/

/-- What one edit makes of a list of records: records are taken away, or one that fits is put at its place while there is room. -/
def RecordEdit (l m : List ExceptionRecord) : Prop :=
  m.Sublist l ∨ ∃ r, (l.any fun y => y.span.conflicts r.span) = false ∧ l.length < Config.calendarRecords ∧ m = insertException r l

/-- The change from one state to another is made of such edits of the calendar's records. -/
def State.EditsCalendar (s t : State) : Prop := Relation.ReflTransGen RecordEdit s.calendar.records t.calendar.records

theorem State.EditsCalendar.of_records {s t : State} (h : t.calendar.records = s.calendar.records) : s.EditsCalendar t := by
  rw [State.EditsCalendar, h]

theorem State.EditsCalendar.of_calendar {s t : State} (h : t.calendar = s.calendar) : s.EditsCalendar t := .of_records (by rw [h])

theorem State.EditsCalendar.of_sublist {s t : State} (h : t.calendar.records.Sublist s.calendar.records) : s.EditsCalendar t :=
  .single (.inl h)

theorem State.EditsCalendar.refl (s : State) : s.EditsCalendar s := Relation.ReflTransGen.refl

theorem State.EditsCalendar.trans {s t u : State} (h : s.EditsCalendar t) (k : t.EditsCalendar u) : s.EditsCalendar u :=
  Relation.ReflTransGen.trans h k

/-- Edits, and a change that leaves the calendar as it stands behind them. -/
theorem State.EditsCalendar.standing {s t u : State} (h : s.EditsCalendar t) (k : u.calendar = t.calendar) : s.EditsCalendar u :=
  h.trans (.of_calendar k)

/-- Edits behind a change that leaves the calendar as it stands. -/
theorem State.EditsCalendar.behind {s t u : State} (h : t.EditsCalendar u) (k : t.calendar = s.calendar) : s.EditsCalendar u :=
  (State.EditsCalendar.of_calendar k).trans h

/-- Edits keep the calendar's invariant. -/
theorem State.EditsCalendar.calendarOk {s t : State} (h : s.EditsCalendar t) (hs : s.CalendarOk) : t.CalendarOk := by
  suffices hk : ∀ m, Relation.ReflTransGen RecordEdit s.calendar.records m → m.length ≤ Config.calendarRecords ∧
      (m.Pairwise fun x y => x.span.listKey ≤ y.span.listKey) ∧ m.Pairwise fun x y => x.span.conflicts y.span = false by
    obtain ⟨hn, ho, ha⟩ := hk _ h
    exact ⟨hn, ho, ha⟩
  intro m hm
  induction hm with
  | refl => exact ⟨hs.count, hs.order, hs.apart⟩
  | tail _ hedit ih =>
    obtain ⟨hn, ho, ha⟩ := ih
    obtain hsub | ⟨r, hc, hlt, rfl⟩ := hedit
    · exact ⟨hsub.length_le.trans hn, ho.sublist hsub, ha.sublist hsub⟩
    · exact ⟨by rw [insertException_length]; exact hlt, insertException_ordered r ho, insertException_apart hc ha⟩

/-! ## The operations of the calendar -/

theorem keepRecords_edits (s : State) (keep : ExceptionRecord → Bool) : s.EditsCalendar (s.keepRecords keep) :=
  .of_sublist (by rw [keepRecords_records]; exact List.filter_sublist)

/-- The day work takes away the past dated records, while time is VALID (R54). -/
theorem State.DayWorkDone.edits {s t : State} (h : s.DayWorkDone t) : s.EditsCalendar t := by
  refine .of_sublist ?_
  rw [h.records]
  split
  · exact List.filter_sublist
  · exact .refl _

theorem addRecord_edits {s t : State} {o : Origin} {x : ExceptionSpan × DayClass} (h : s.addRecord o x = .ok t) :
    s.EditsCalendar t := by
  unfold State.addRecord at h
  dsimp only at h
  split at h
  · cases h
  · split at h
    · cases h
    · next hclash =>
      split at h
      · cases h
      · next hroom => cases h; exact .single (.inr ⟨_, Bool.eq_false_iff.mpr hclash, Nat.lt_of_not_le hroom, rfl⟩)

theorem addExceptionItem_edits {o : Origin} {p : List Byte} {s t : State} (h : addExceptionItem o p s = .ok t) :
    s.EditsCalendar t := by
  unfold addExceptionItem at h
  split at h
  · split at h
    · exact addRecord_edits h
    · cases h
  · cases h

end Sys2Proof.Machine
end

/-! What leaves the Exception Calendar as it stands: the events of the other blocks, and the operations on slots and channels. -/

section
namespace Sys2Proof.Machine

theorem forEach_calendar {α : Type} {f : State → α → State} (hf : ∀ (s : State) (a : α), (f s a).calendar = s.calendar)
    (l : List α) (s : State) : (s.forEach l f).calendar = s.calendar :=
  forEach_keeps (P := fun t => t.calendar = s.calendar) (fun t a _ h => (hf t a).trans h) rfl

theorem elapse_calendar (s : State) (dt : Nat) : (s.elapse dt).calendar = s.calendar := by
  unfold State.elapse
  dsimp only
  repeat' split
  all_goals rfl

/-! ## Slots and channels -/

/-- A claim operation on some channels, with the targets computed behind it. -/
theorem pass_calendar {f : State → Chan → State} (hf : ∀ (s : State) (c : Chan), s.OnChannels (· = c) (f s c)) (cs : List Chan)
    (s : State) : ((s.forEach cs f).retargetAll cs).calendar = s.calendar :=
  (retargetAll_onChannels _ cs).calendar.trans (forEach_calendar (fun s c => (hf s c).calendar) cs s)

theorem dropClaims_calendar (s : State) (i : SlotNo) (e : Entry) : (s.dropClaims i e).calendar = s.calendar := by
  unfold State.dropClaims
  split
  · exact (removeClaims_touches s i i e.body).calendar
  · rfl

theorem retireOpen_calendar (s : State) (i : SlotNo) : (s.retireOpen i).calendar = s.calendar := by
  cases he : (s.slot i).entry with
  | none => rw [retireOpen_of_free he]
  | some e => exact (retireOpen_touches (slot_of_entry he)).calendar

theorem chooseSlot_calendar {s t : State} {i : SlotNo} (h : s.chooseSlot = some (i, t)) : t.calendar = s.calendar := by
  unfold State.chooseSlot at h
  repeat' split at h
  all_goals cases h
  all_goals rfl

theorem makeEntry_calendar {s t : State} {o : Origin} {b : EntryBody} {i : SlotNo} (h : s.makeEntry o b = .ok (i, t)) :
    t.calendar = s.calendar := by
  unfold State.makeEntry at h
  dsimp only at h
  split at h
  · cases h
  · split at h
    · cases h
    · next hc =>
      rw [← chooseSlot_calendar hc]
      cases h
      exact (catchUp_stage.touches _ _).calendar

theorem applyConfig_calendar (s : State) (c : Chan) (cfg : ChannelConfig) : (s.applyConfig c cfg).calendar = s.calendar :=
  (applyConfig_onChannels s c cfg).calendar

theorem configureItem_calendar {p : List Byte} {s t : State} {c : Chan} (h : configureItem p s = .ok (c, t)) :
    t.calendar = s.calendar := by
  unfold configureItem at h
  repeat' split at h
  all_goals cases h
  exact applyConfig_calendar s _ _

theorem lightEvent_calendar (s : State) (ev : LightEvent) : (s.lightEvent ev).calendar = s.calendar :=
  ((lightStartSlot_stage ev).forEach_calendar _ _).trans ((lightEndSlot_stage ev).forEach_calendar _ _)

/-! ## The Switching Engine -/

theorem scanQueue_calendar (s : State) (cs : List Chan) (room : Nat) : (scanQueue s cs room).1.calendar = s.calendar := by
  induction cs generalizing s room with
  | nil => rfl
  | cons c cs ih =>
    cases room with
    | zero => rfl
    | succ room =>
      unfold scanQueue
      split
      · exact ih _ _
      · exact ih _ _

theorem switchingSlot_calendar (s : State) : s.switchingSlot.calendar = s.calendar := scanQueue_calendar s _ _

theorem crystalTick_calendar (s : State) : s.crystalTick.calendar = s.calendar := by
  unfold State.crystalTick
  dsimp only
  split
  · split
    · rfl
    · exact switchingSlot_calendar _
  · rfl

theorem coilAction_calendar (s : State) (c : Chan) : (s.coilAction c).calendar = s.calendar := by
  unfold State.coilAction
  split <;> rfl

theorem pulseStart_calendar (s : State) (c : Chan) : (s.pulseStart c).calendar = s.calendar := by
  unfold State.pulseStart
  split <;> rfl

theorem complete_calendar (s : State) (c : Chan) : (s.complete c).calendar = s.calendar := by
  unfold State.complete
  dsimp only
  repeat' split
  all_goals rfl

theorem abandon_calendar (s : State) (c : Chan) : (s.abandon c).calendar = s.calendar :=
  (reportDriven_onChannels _ c _).calendar

theorem abandonAll_calendar (s : State) : s.abandonAll.calendar = s.calendar := by
  rw [State.abandonAll, State.setEngine_calendar, forEach_calendar abandon_calendar]

theorem reconcileAll_calendar (s : State) : s.reconcileAll.calendar = s.calendar := by
  rw [State.reconcileAll, forEach_calendar fun s c => (reconcile_onChannels s c).calendar]

theorem enterRun_calendar (s : State) : s.enterRun.calendar = s.calendar := by
  rw [State.enterRun, reconcileAll_calendar, State.raiseSystem_calendar, State.setSupply_calendar]

/-! ## The Time Base and the Line Monitor -/

theorem makeDoubtful_calendar (s : State) : s.makeDoubtful.calendar = s.calendar := by
  unfold State.makeDoubtful
  split <;> rfl

theorem judgeSource_calendar (s : State) : s.judgeSource.calendar = s.calendar := by
  unfold State.judgeSource State.handToLine State.handToCrystal
  dsimp only
  split
  · rfl
  · split
    · rfl
    · split
      · rfl
      · exact makeDoubtful_calendar _

theorem secondBoundary_calendar (s : State) : s.secondBoundary.calendar = s.calendar := by
  unfold State.secondBoundary
  dsimp only
  split
  · split
    · exact makeDoubtful_calendar s
    · rfl
  · rfl

theorem stopCrystal_calendar (s : State) : s.stopCrystal.calendar = s.calendar := by
  unfold State.stopCrystal
  dsimp only
  split
  · rfl
  · split
    · exact makeDoubtful_calendar _
    · rfl

theorem runCrystal_calendar (s : State) : s.runCrystal.calendar = s.calendar := by
  unfold State.runCrystal
  split <;> rfl

theorem updateLine_calendar (s : State) (l : LineMonitor) : (s.updateLine l).calendar = s.calendar := by
  unfold State.updateLine
  dsimp only
  split <;> rfl

theorem loseLine_calendar (s : State) : s.loseLine.calendar = s.calendar :=
  (judgeSource_calendar _).trans (updateLine_calendar s _)

theorem risingCrossing_calendar (s : State) : s.risingCrossing.calendar = s.calendar := by
  unfold State.risingCrossing
  split
  · have hjudged : (s.updateLine (s.line.rise s.cycles s.time.crystalRunning)).judgeSource.calendar = s.calendar :=
      (judgeSource_calendar _).trans (updateLine_calendar s _)
    rw [← hjudged]
    generalize (s.updateLine (s.line.rise s.cycles s.time.crystalRunning)).judgeSource = u
    dsimp only
    split
    · rw [switchingSlot_calendar]
      split <;> rfl
    · rfl
  · rfl

theorem fallingCrossing_calendar (s : State) : s.fallingCrossing.calendar = s.calendar := by
  unfold State.fallingCrossing
  dsimp only
  split
  · split
    · exact switchingSlot_calendar _
    · rfl
  · rfl

theorem absenceTimeout_calendar (s : State) : s.absenceTimeout.calendar = s.calendar := by
  unfold State.absenceTimeout
  split
  · exact loseLine_calendar s
  · rfl

theorem takeClaimTick_calendar (s : State) : s.takeClaimTick.calendar = s.calendar := by
  unfold State.takeClaimTick
  split
  · exact pass_calendar countdownChannel_channelOp.on allChannels _
  · rfl

/-! ## The Light Monitor -/

theorem updateLight_calendar (s : State) (l : LightMonitor) : (s.updateLight l).calendar = s.calendar := by
  unfold State.updateLight
  dsimp only
  split <;> rfl

theorem luxSample_calendar (s : State) (v : Nat) : (s.luxSample v).calendar = s.calendar := by
  unfold State.luxSample
  split
  · split
    · exact updateLight_calendar s _
    · exact (lightEvent_calendar _ _).trans (updateLight_calendar s _)
  · rfl

/-! ## The Button Unit -/

theorem reportHeld_calendar (s : State) (cs : List Chan) : (s.reportHeld cs).calendar = s.calendar := by
  rw [State.reportHeld, forEach_calendar fun s c => State.raiseChannel_calendar s c _]

theorem shortPress_calendar (s : State) (b : ButtonNo) : (s.shortPress b).calendar = s.calendar := by
  unfold State.shortPress
  dsimp only
  split
  · exact reportHeld_calendar s _
  · exact (pass_calendar (putOverride_channelOp _ _ _).on _ _).trans (reportHeld_calendar s _)

theorem longPressAction_calendar (s : State) (b : ButtonNo) : (s.longPressAction b).calendar = s.calendar := by
  unfold State.longPressAction
  dsimp only
  split
  · exact reportHeld_calendar s _
  · exact (pass_calendar dropOverride_onChannels _ _).trans (reportHeld_calendar s _)

theorem releaseConfirm_calendar (s : State) (b : ButtonNo) : (s.releaseConfirm b).calendar = s.calendar := by
  unfold State.releaseConfirm
  split
  · split
    · split
      · exact shortPress_calendar s b
      · rfl
    · rfl
  · rfl

theorem inputLow_calendar (s : State) (b : ButtonNo) : (s.inputLow b).calendar = s.calendar := by
  unfold State.inputLow
  dsimp only
  split
  · rfl
  · rw [← releaseConfirm_calendar s b]
    generalize s.releaseConfirm b = u
    repeat' split
    all_goals simp [State.setPress, longPressAction_calendar]

theorem inputHigh_calendar (s : State) (b : ButtonNo) : (s.inputHigh b).calendar = s.calendar := by
  unfold State.inputHigh
  dsimp only
  repeat' split
  all_goals rfl

theorem debounceExpiry_calendar (s : State) (b : ButtonNo) : (s.debounceExpiry b).calendar = s.calendar := by
  unfold State.debounceExpiry
  repeat' split
  all_goals rfl

theorem longPress_calendar (s : State) (b : ButtonNo) : (s.longPress b).calendar = s.calendar := by
  unfold State.longPress
  split
  · exact longPressAction_calendar s b
  · rfl

/-! ## The store and the supply -/

theorem interruptLoad_calendar (s : State) : s.interruptLoad.calendar = s.calendar := by
  unfold State.interruptLoad
  split <;> rfl

theorem cutProgramming_calendar (s : State) : s.cutProgramming.calendar = s.calendar := by
  unfold State.cutProgramming
  split <;> rfl

theorem releaseButton_calendar (s : State) (b : ButtonNo) : (s.releaseButton b).calendar = s.calendar := rfl

theorem enterBackup_calendar (s : State) : s.enterBackup.calendar = s.calendar := by
  unfold State.enterBackup
  dsimp only
  split
  · rfl
  · rw [forEach_calendar releaseButton_calendar, State.darkenLight, updateLight_calendar, loseLine_calendar, abandonAll_calendar,
      cutProgramming_calendar, State.setPort_calendar, State.raiseSystem_calendar, State.setSupply_calendar,
      interruptLoad_calendar]

theorem countdownSecond_calendar (s : State) : s.countdownSecond.calendar = s.calendar := by
  unfold State.countdownSecond
  split <;> rfl

theorem countdownExpiry_calendar (s : State) : s.countdownExpiry.calendar = s.calendar := by
  unfold State.countdownExpiry
  split
  · exact enterRun_calendar s
  · rfl

theorem retainedLoss_calendar (s : State) : s.retainedLoss.calendar = s.calendar := by
  unfold State.retainedLoss
  split <;> rfl

/-! ## The port -/

theorem startTransaction_calendar (s : State) : s.startTransaction.calendar = s.calendar := by
  unfold State.startTransaction
  split <;> rfl

theorem statusShifted_calendar (s : State) : s.statusShifted.calendar = s.calendar := by
  unfold State.statusShifted
  repeat' split
  all_goals rfl

theorem latchReply_calendar (s : State) : s.latchReply.calendar = s.calendar := by
  unfold State.latchReply
  split <;> rfl

theorem portReset_calendar (s : State) : s.portReset.calendar = s.calendar := by
  unfold State.portReset
  split <;> rfl

end Sys2Proof.Machine
end

/-! Every step edits the Exception Calendar: the commands, the work of a minute and of SET_TIME, loads, the supply, and the traversal of a
step. -/

section
namespace Sys2Proof.Machine

/-! ## Commands that leave the calendar as it stands -/

theorem answers_mono {R R' : State → Prop} {a : Answer} (h : Answers R a) (hr : ∀ t, R t → R' t) : Answers R' a :=
  fun t q ha => hr t (h t q ha)

theorem handleCommand_answers {R : State → Prop} {p : List Byte} {s : State} {go : SlotNo → Entry → Answer}
    (h : ∀ i e, (s.slot i).entry = some e → Answers R (go i e)) : Answers R (handleCommand p s go) := fun t q ha => by
  obtain ⟨i, e, he, hg⟩ := handleCommand_ok ha
  exact h i e he t q hg

/-! ### The commands on entries and channels -/

section
variable (p : List Byte) (s : State)

theorem cmdCreateEntry_calendar : Answers (·.calendar = s.calendar) (cmdCreateEntry p s) := by
  refine answers_check (answers_check ?_)
  split
  · exact answers_error
  · split
    · exact answers_error
    · next hm => exact answers_ok (makeEntry_calendar hm)

theorem cmdModifyEntry_calendar : Answers (·.calendar = s.calendar) (cmdModifyEntry p s) := by
  refine answers_check ?_
  split
  · refine answers_check fun t q ha => ?_
    obtain ⟨i, e, -, -, -, hg⟩ := withHandle_ok ha
    split at hg
    · cases hg
    · obtain ⟨-, hg⟩ := check_ok hg
      obtain ⟨-, hg⟩ := check_ok hg
      cases hg
      exact (catchUp_stage.touches _ i).calendar.trans (dropClaims_calendar s i e)
  · exact answers_error

theorem cmdSuspendEntry_calendar : Answers (·.calendar = s.calendar) (cmdSuspendEntry p s) := by
  refine handleCommand_answers fun i e _ => answers_check (answers_ok ?_)
  rw [State.raiseEntry_calendar]
  split <;> exact dropClaims_calendar s i e

theorem cmdResumeEntry_calendar : Answers (·.calendar = s.calendar) (cmdResumeEntry p s) := by
  refine handleCommand_answers fun i e _ => answers_check (answers_ok ?_)
  rw [(catchUp_stage.touches _ i).calendar, State.raiseEntry_calendar]
  split <;> rfl

theorem cmdRetireEntry_calendar : Answers (·.calendar = s.calendar) (cmdRetireEntry p s) :=
  handleCommand_answers fun _ _ he => answers_ok (retire_touches (slot_of_entry he)).calendar

theorem cmdStartEntry_calendar : Answers (·.calendar = s.calendar) (cmdStartEntry p s) :=
  handleCommand_answers fun _ _ he => answers_check (answers_ok (start_touches (slot_of_entry he) none).calendar)

theorem cmdEndEntry_calendar : Answers (·.calendar = s.calendar) (cmdEndEntry p s) :=
  handleCommand_answers fun _ _ he => answers_check (answers_ok (endClaim_touches (slot_of_entry he)).calendar)

theorem cmdOverride_calendar : Answers (·.calendar = s.calendar) (cmdOverride p s) := by
  unfold cmdOverride
  split
  · split
    · exact answers_check (answers_ok (pass_calendar (putOverride_channelOp _ _ _).on _ s))
    · exact answers_error
  · exact answers_error

theorem cmdClearOverride_calendar : Answers (·.calendar = s.calendar) (cmdClearOverride p s) := by
  unfold cmdClearOverride
  split
  · exact answers_check (answers_ok (pass_calendar dropOverride_onChannels _ s))
  · exact answers_error

theorem cmdHold_calendar : Answers (·.calendar = s.calendar) (cmdHold p s) := by
  unfold cmdHold
  split
  · split
    · exact answers_check (answers_ok (pass_calendar (putHold_channelOp _).on _ s))
    · exact answers_error
  · exact answers_error

theorem cmdReleaseHold_calendar : Answers (·.calendar = s.calendar) (cmdReleaseHold p s) := by
  unfold cmdReleaseHold
  split
  · exact answers_check (answers_ok (pass_calendar dropHold_channelOp.on _ s))
  · exact answers_error

theorem cmdConfigureChannel_calendar : Answers (·.calendar = s.calendar) (cmdConfigureChannel p s) := by
  refine answers_check ?_
  split
  · exact answers_error
  · next hi => exact answers_ok (configureItem_calendar hi)

theorem cmdSetStagger_calendar : Answers (·.calendar = s.calendar) (cmdSetStagger p s) := by
  unfold cmdSetStagger
  split
  · exact answers_check (answers_ok rfl)
  · exact answers_error

end

/-! ### What a command shares with an item of a load -/

theorem lightLimitsItem_calendar {p : List Byte} {s t : State} (h : lightLimitsItem p s = .ok t) : t.calendar = s.calendar := by
  unfold lightLimitsItem at h
  dsimp only at h
  repeat' split at h
  all_goals cases h
  rfl

theorem buttonItem_calendar {p : List Byte} {s t : State} {b : ButtonNo} (h : buttonItem p s = .ok (b, t)) :
    t.calendar = s.calendar := by
  unfold buttonItem at h
  repeat' split at h
  all_goals cases h
  rfl

theorem timeSourceItem_calendar {p : List Byte} {s t : State} (h : timeSourceItem p s = .ok t) : t.calendar = s.calendar := by
  unfold timeSourceItem at h
  repeat' split at h
  all_goals cases h
  all_goals exact judgeSource_calendar _

theorem lineConfirmItem_calendar {p : List Byte} {s t : State} (h : lineConfirmItem p s = .ok t) : t.calendar = s.calendar := by
  unfold lineConfirmItem at h
  repeat' split at h
  all_goals cases h
  rfl

theorem supplyItem_calendar {p : List Byte} {s t : State} (h : supplyItem p s = .ok t) : t.calendar = s.calendar := by
  unfold supplyItem at h
  repeat' split at h
  all_goals cases h
  rfl

theorem cmdProgramStore_calendar {p : List Byte} {tag : Byte} {s t : State} (h : cmdProgramStore p tag s = .ok t) :
    t.calendar = s.calendar := by
  unfold cmdProgramStore at h
  repeat' split at h
  all_goals cases h
  rfl

/-! ### The commands of the other blocks -/

section
variable (p : List Byte) (s : State)

theorem cmdConfigureButton_calendar : Answers (·.calendar = s.calendar) (cmdConfigureButton p s) := by
  refine answers_check ?_
  split
  · exact answers_error
  · next hi => exact answers_ok (buttonItem_calendar hi)

theorem cmdSetLightLimits_calendar : Answers (·.calendar = s.calendar) (cmdSetLightLimits p s) := by
  refine answers_check ?_
  split
  · exact answers_error
  · next hi => exact answers_ok (lightLimitsItem_calendar hi)

theorem cmdSetTimeSource_calendar : Answers (·.calendar = s.calendar) (cmdSetTimeSource p s) := by
  unfold cmdSetTimeSource
  split
  · exact answers_error
  · next hi => exact answers_ok (timeSourceItem_calendar hi)

theorem cmdSetLineConfirm_calendar : Answers (·.calendar = s.calendar) (cmdSetLineConfirm p s) := by
  unfold cmdSetLineConfirm
  split
  · exact answers_error
  · next hi => exact answers_ok (lineConfirmItem_calendar hi)

theorem cmdSetSupply_calendar : Answers (·.calendar = s.calendar) (cmdSetSupply p s) := by
  unfold cmdSetSupply
  split
  · exact answers_ok rfl
  · exact answers_error

theorem cmdReadChanges_calendar : Answers (·.calendar = s.calendar) (cmdReadChanges p s) := by
  unfold cmdReadChanges
  split
  · exact answers_check (answers_ok rfl)
  · exact answers_error

theorem cmdSetNoticeMask_calendar : Answers (·.calendar = s.calendar) (cmdSetNoticeMask p s) := by
  unfold cmdSetNoticeMask
  split
  · exact answers_check (answers_ok rfl)
  · exact answers_error

/-! ## Commands that edit it -/

theorem cmdAddException_edits : Answers s.EditsCalendar (cmdAddException p s) := by
  refine answers_check ?_
  split
  · next ha => exact answers_ok (addExceptionItem_edits ha)
  · exact answers_error

theorem cmdRemoveException_edits : Answers s.EditsCalendar (cmdRemoveException p s) := by
  refine answers_check ?_
  split
  · split
    · exact answers_check (answers_ok (keepRecords_edits s _))
    · exact answers_error
  · exact answers_error

theorem cmdClearAll_edits : Answers s.EditsCalendar (cmdClearAll p s) := by
  refine answers_check (answers_check (answers_ok (.of_sublist ?_)))
  rw [(clearAll_onChannels s).calendar, emptied_calendar]
  exact List.nil_sublist _

theorem cmdSetTime_edits : Answers s.EditsCalendar (cmdSetTime p s) := by
  unfold cmdSetTime
  split
  · split
    · exact answers_error
    · next x _ => exact answers_check (answers_ok ((takeTime_dayWork s x).edits.behind rfl))
  · exact answers_error

end

/-! ## Loads -/

theorem endLoad_calendar (s : State) (l : LoadRecord) : (s.endLoad l).calendar = s.calendar := rfl

theorem completeLoad_calendar (s : State) : s.completeLoad.calendar = s.calendar := rfl

theorem startLoad_edits (s : State) (src : LoadSource) : s.EditsCalendar (s.startLoad src) := by
  have hretired : s.EditsCalendar (s.retired src) := .of_sublist (by rw [retired_records]; exact List.filter_sublist)
  cases ht : headerTests s.store.array with
  | some r => rw [startLoad_of_bad src ht]; exact .of_calendar (endLoad_calendar s _)
  | none =>
    rw [startLoad_of_good src ht]
    split
    · exact hretired.standing (completeLoad_calendar _)
    · exact hretired

theorem cmdLoadDefaults_edits (p : List Byte) (s : State) : Answers s.EditsCalendar (cmdLoadDefaults p s) :=
  answers_check (answers_check (answers_ok (startLoad_edits s .host)))

theorem entryItem_calendar {p : List Byte} {s t : State} (h : entryItem p s = .ok t) : t.calendar = s.calendar := by
  unfold entryItem at h
  split at h
  · split at h
    · cases h
    · split at h
      · cases h
      · next hm => cases h; exact makeEntry_calendar hm
  · cases h

theorem ok_of_map {α : Type} {x : Except Result α} {f : α → State} {t : State} (h : x.map f = .ok t) :
    ∃ a, x = .ok a ∧ f a = t := by
  cases x with
  | error r => cases h
  | ok a => cases h; exact ⟨a, rfl, rfl⟩

theorem applyItem_edits {type : Byte} {p : List Byte} {s t : State} (h : applyItem type p s = .ok t) : s.EditsCalendar t := by
  unfold applyItem at h
  split at h
  · obtain ⟨x, hx, rfl⟩ := ok_of_map h
    exact .of_calendar (configureItem_calendar hx)
  · exact .of_calendar (entryItem_calendar h)
  · exact addExceptionItem_edits h
  · exact .of_calendar (lightLimitsItem_calendar h)
  · obtain ⟨x, hx, rfl⟩ := ok_of_map h
    exact .of_calendar (buttonItem_calendar hx)
  · exact .of_calendar (lineConfirmItem_calendar h)
  · exact .of_calendar (supplyItem_calendar h)
  · exact .of_calendar (timeSourceItem_calendar h)
  · cases h

theorem takeItem_edits (s : State) (n : NextItem) : s.EditsCalendar (s.takeItem n) := by
  unfold State.takeItem
  dsimp only
  split
  · next hv => exact (applyItem_edits hv).standing rfl
  · exact .of_calendar rfl

theorem loadStep_edits (s : State) : s.EditsCalendar s.loadStep := by
  cases hd : s.loadStepDue with
  | none => rw [loadStep_of_none hd]; exact .refl s
  | some n =>
    rw [loadStep_of_due hd]
    split
    · exact (takeItem_edits s n).standing (completeLoad_calendar _)
    · exact takeItem_edits s n

/-! ## The minute evaluation -/

theorem minuteEvaluation_edits (s : State) : s.EditsCalendar s.minuteEvaluation := by
  obtain ⟨hday, hstand⟩ := minuteEvaluation_calendar s
  by_cases h : s.time.time.tod = ⟨0, 0⟩
  · exact (hday h).edits
  · exact .of_calendar (hstand h)

theorem takeMinuteTick_edits (s : State) : s.EditsCalendar s.takeMinuteTick := by
  unfold State.takeMinuteTick
  split
  · exact (minuteEvaluation_edits _).behind rfl
  · exact .refl s

/-! ## The supply -/

/-- A cold start and a power-up leave an empty calendar (R59, R143, R146). -/
theorem State.EditsCalendar.of_cold {s t : State} (h : t.calendar = ExceptionCalendar.cold) : s.EditsCalendar t :=
  .of_sublist (by rw [h]; exact List.nil_sublist _)

theorem sampleButton_calendar (s : State) (b : ButtonNo) : (s.sampleButton b).calendar = s.calendar := rfl

theorem restored_calendar (s : State) :
    s.restored.calendar = (if s.supply.signatureValid then s.warmRestore else s.coldStart).calendar := by
  rw [State.restored, forEach_calendar sampleButton_calendar]
  rfl

theorem restored_edits (s : State) : s.EditsCalendar s.restored := by
  refine State.EditsCalendar.standing ?_ (restored_calendar s)
  split
  · exact .of_calendar rfl
  · exact .of_cold rfl

theorem enterRestoring_edits (s : State) : s.EditsCalendar s.enterRestoring := by
  have hload : s.EditsCalendar s.restoredLoading := by
    unfold State.restoredLoading
    split
    · exact (restored_edits s).trans (startLoad_edits _ .restore)
    · exact restored_edits s
  rw [enterRestoring_eq]
  split
  · exact hload.standing (enterRun_calendar _)
  · exact hload

theorem powerUpValues_edits (s : State) (b : Bool) : s.EditsCalendar (s.powerUpValues b) := .of_cold rfl

theorem mainsReturn_edits (s : State) : s.EditsCalendar s.mainsReturn := by
  unfold State.mainsReturn
  split
  · split
    · exact (powerUpValues_edits s _).trans (enterRestoring_edits _)
    · exact enterRestoring_edits s
  · exact .refl s

theorem powerUp_edits (s : State) (a b : Bool) : s.EditsCalendar (s.powerUp a b) := by
  unfold State.powerUp
  dsimp only
  split
  · split
    · exact (powerUpValues_edits s b).trans (enterRestoring_edits _)
    · exact powerUpValues_edits s b
  · exact .refl s

/-! ## The executor and the port -/

theorem runCommand_edits (cmd : Byte) (p : List Byte) (s : State) : Answers s.EditsCalendar (runCommand cmd p s) := by
  have hread {a : Answer} (ha : Answers (· = s) a) : Answers s.EditsCalendar a :=
    answers_mono ha fun t h => .of_calendar (by rw [h])
  have hstand {a : Answer} (ha : Answers (·.calendar = s.calendar) a) : Answers s.EditsCalendar a :=
    answers_mono ha fun _ => .of_calendar
  unfold runCommand
  split
  · exact hstand (cmdCreateEntry_calendar p s)
  · exact hread (cmdReadEntry_reads p s)
  · exact hstand (cmdModifyEntry_calendar p s)
  · exact hstand (cmdSuspendEntry_calendar p s)
  · exact hstand (cmdResumeEntry_calendar p s)
  · exact hstand (cmdRetireEntry_calendar p s)
  · exact hstand (cmdStartEntry_calendar p s)
  · exact hstand (cmdEndEntry_calendar p s)
  · exact hread (cmdFindEntries_reads p s)
  · exact cmdClearAll_edits p s
  · exact cmdAddException_edits p s
  · exact cmdRemoveException_edits p s
  · exact hread (cmdListExceptions_reads p s)
  · exact hread (cmdDayClass_reads p s)
  · exact hstand (cmdOverride_calendar p s)
  · exact hstand (cmdClearOverride_calendar p s)
  · exact hstand (cmdHold_calendar p s)
  · exact hstand (cmdReleaseHold_calendar p s)
  · exact hread (cmdReadChannel_reads p s)
  · exact hstand (cmdConfigureChannel_calendar p s)
  · exact hstand (cmdSetStagger_calendar p s)
  · exact hstand (cmdConfigureButton_calendar p s)
  · exact hread (cmdReadButton_reads p s)
  · exact hstand (cmdSetLightLimits_calendar p s)
  · exact hread (cmdReadLight_reads p s)
  · exact cmdSetTime_edits p s
  · exact hread (cmdReadTime_reads p s)
  · exact hstand (cmdSetTimeSource_calendar p s)
  · exact hstand (cmdSetLineConfirm_calendar p s)
  · exact hread (cmdReadLine_reads p s)
  · exact hstand (cmdSetSupply_calendar p s)
  · exact hread (cmdReadSupply_reads p s)
  · exact hread (cmdReadStore_reads p s)
  · exact cmdLoadDefaults_edits p s
  · exact hread (cmdLoadStatus_reads p s)
  · exact hstand (cmdReadChanges_calendar p s)
  · exact hstand (cmdSetNoticeMask_calendar p s)
  · exact hread (cmdIdentify_reads p s)
  · exact answers_error

theorem execute_edits (s : State) (rq : Request) : s.EditsCalendar (s.execute rq) := by
  unfold State.execute
  split
  · split
    · next hc => exact .of_calendar (cmdProgramStore_calendar hc)
    · exact .of_calendar rfl
  · unfold State.answer
    split
    · next hc => exact (runCommand_edits _ _ s _ _ hc).standing rfl
    · exact .of_calendar rfl

theorem takeRequests_edits (n : Nat) (s : State) : s.EditsCalendar (s.takeRequests n) := by
  induction n generalizing s with
  | zero => exact .refl s
  | succ n ih =>
    unfold State.takeRequests
    split
    · exact .refl s
    · split
      · exact ((execute_edits _ _).trans (ih _)).behind rfl
      · exact .refl s

theorem executor_edits (s : State) : s.EditsCalendar s.executor := takeRequests_edits _ s

/-- The executor's test behind a change at the port alone. -/
theorem setPort_executor_edits (s : State) (x : HostPort) : s.EditsCalendar (s.setPort x).executor := (executor_edits _).behind rfl

theorem submit_edits (s : State) (cmd tag : Byte) (p : List Byte) : s.EditsCalendar (s.submit cmd tag p) := by
  unfold State.submit
  split
  · split
    · exact setPort_executor_edits s _
    · exact .of_calendar rfl
  · exact .refl s

theorem endReplyRead_edits (s : State) (x : Transaction) (n : Nat) : s.EditsCalendar (s.endReplyRead x n) := by
  unfold State.endReplyRead
  split
  · split
    · exact setPort_executor_edits s _
    · exact .refl s
  · exact .refl s

theorem judgeFrame_edits (s : State) (bytes : List Byte) (n : Nat) : s.EditsCalendar (s.judgeFrame bytes n) := by
  unfold State.judgeFrame
  split
  · split
    · exact setPort_executor_edits s _
    · exact .of_calendar rfl
  · exact .of_calendar rfl

theorem endRequest_edits (s : State) (bytes : List Byte) (n : Nat) : s.EditsCalendar (s.endRequest bytes n) := by
  unfold State.endRequest
  split
  · exact .of_calendar rfl
  · split
    · exact .of_calendar rfl
    · split
      · exact (endReplyRead_edits _ _ _).behind rfl
      · exact (judgeFrame_edits _ _ _).behind rfl

theorem endRead_edits (s : State) (n : Nat) : s.EditsCalendar (s.endRead n) := by
  unfold State.endRead
  split
  · exact .of_calendar rfl
  · exact (endReplyRead_edits _ _ _).behind rfl

theorem portRelease_edits (s : State) : s.EditsCalendar s.portRelease := by
  unfold State.portRelease
  split
  · exact setPort_executor_edits s _
  · exact .refl s

theorem programByteDone_edits (s : State) : s.EditsCalendar s.programByteDone := by
  unfold State.programByteDone
  split
  · exact .refl s
  · next pr _ =>
    refine State.EditsCalendar.behind ?_ (show (s.setArray (pr.burn s.store.array)).calendar = s.calendar from rfl)
    generalize s.setArray (pr.burn s.store.array) = u
    dsimp only
    split
    · exact (executor_edits _).behind rfl
    · split
      · exact (executor_edits _).behind rfl
      · exact .of_calendar rfl

/-! ## A step -/

theorem exec_edits {x : Instr} {s t : State} (hx : exec x s = .next t) : s.EditsCalendar t := by
  have hrow {cmd tag : Byte} {p : List Byte} (he : (.next (s.submit cmd tag p) : Effect) = .next t) : s.EditsCalendar t := by
    cases he; exact submit_edits s cmd tag p
  have hstand {dt : Nat} {f : State → State} (hf : ∀ u : State, (f u).calendar = u.calendar)
      (he : (.next (f (s.elapse dt)) : Effect) = .next t) : s.EditsCalendar t := by
    cases he; exact .of_calendar ((hf _).trans (elapse_calendar s dt))
  have hedit {dt : Nat} {f : State → State} (hf : ∀ u : State, u.EditsCalendar (f u))
      (he : (.next (f (s.elapse dt)) : Effect) = .next t) : s.EditsCalendar t := by
    cases he; exact (State.EditsCalendar.of_calendar (elapse_calendar s dt)).trans (hf _)
  cases x with
  | transactionStart dt => exact hstand startTransaction_calendar hx
  | statusByteShifted dt => exact hstand statusShifted_calendar hx
  | replyLatch dt => exact hstand latchReply_calendar hx
  | requestFrame dt bytes n => exact hedit (fun u => endRequest_edits u bytes n) hx
  | replyReadEnd dt n => exact hedit (fun u => endRead_edits u n) hx
  | portReset dt => exact hstand portReset_calendar hx
  | portResetRelease dt => exact hedit portRelease_edits hx
  | programByteDone dt => exact hedit programByteDone_edits hx
  | enterBackup dt => exact hstand enterBackup_calendar hx
  | mainsReturn dt => exact hedit mainsReturn_edits hx
  | restoreCountdownExpiry dt => exact hstand countdownExpiry_calendar hx
  | retainedSupplyLoss dt => exact hstand retainedLoss_calendar hx
  | powerUp a b => cases hx; exact powerUp_edits s a b
  | secondBoundary dt => exact hstand secondBoundary_calendar hx
  | minuteEvaluation dt => exact hedit takeMinuteTick_edits hx
  | overrideCountdown dt => exact hstand takeClaimTick_calendar hx
  | risingCrossing dt => exact hstand risingCrossing_calendar hx
  | fallingCrossing dt => exact hstand fallingCrossing_calendar hx
  | absenceTimeout dt => exact hstand absenceTimeout_calendar hx
  | crystalStop dt => exact hstand stopCrystal_calendar hx
  | crystalRun dt => exact hstand runCrystal_calendar hx
  | crystalTick dt => exact hstand crystalTick_calendar hx
  | coilAction dt c => exact hstand (fun u => coilAction_calendar u c) hx
  | pulseStart dt c => exact hstand (fun u => pulseStart_calendar u c) hx
  | operationComplete dt c => exact hstand (fun u => complete_calendar u c) hx
  | buttonInputLow dt b => exact hstand (fun u => inputLow_calendar u b) hx
  | buttonInputHigh dt b => exact hstand (fun u => inputHigh_calendar u b) hx
  | buttonDebounceExpiry dt b => exact hstand (fun u => debounceExpiry_calendar u b) hx
  | buttonReleaseConfirm dt b => exact hstand (fun u => releaseConfirm_calendar u b) hx
  | longPress dt b => exact hstand (fun u => longPress_calendar u b) hx
  | luxSample dt v => exact hstand (fun u => luxSample_calendar u _) hx
  | loadStep dt => exact hedit loadStep_edits hx
  | restoreCountdownSecond dt => exact hstand countdownSecond_calendar hx
  | _ => exact hrow hx

/-- All that a step does to the records of the calendar is to take records away, and to put in one that fits while there is room. -/
theorem step_edits {s t : State} (hs : step s = .next t) : s.EditsCalendar t := by
  unfold step at hs
  split at hs
  · exact (exec_edits hs).behind rfl
  · split at hs
    · exact exec_edits hs
    · cases hs; exact .of_calendar (elapse_calendar s 1)

/-- Settles O16: every edit of the records keeps the calendar's invariant. -/
theorem stepKeepsCalendar : Obligations.StepKeepsCalendar := fun _ _ h hs => (step_edits hs).calendarOk h

end Sys2Proof.Machine
end

/-! The commands of the Exception Calendar: ADD_EXCEPTION, REMOVE_EXCEPTION, LIST_EXCEPTIONS and DAY_CLASS (R55 to R58). -/

section
namespace Sys2Proof.Machine

/-! ## ADD_EXCEPTION and REMOVE_EXCEPTION (R55, R56) -/

section
variable {s : State} {tag head f1 f2 f3 l1 l2 l3 : Byte}

theorem cmdAddException_of_error {p : List Byte} {r : Result} (hl : s.loadRunning = false)
    (h : addExceptionItem .host p s = .error r) : cmdAddException p s = .error r := by
  simp only [cmdAddException, hl, Bool.not_false, check_true, h]

theorem cmdAddException_of_ok {p : List Byte} {t : State} (hl : s.loadRunning = false) (h : addExceptionItem .host p s = .ok t) :
    cmdAddException p s = .ok (t, calendarReply t) := by
  simp only [cmdAddException, hl, Bool.not_false, check_true, h]

theorem exec_addException_refused (hr : s.Ready) (hl : s.loadRunning = false) {x : ExceptionSpan × DayClass} {r : Result}
    (hx : readException head f1 f2 f3 l1 l2 l3 = some x) (h : s.addRecord .host x = .error r) :
    exec (.addException tag [head, f1, f2, f3, l1, l2, l3]) s = .next (s.refusedWith 0x20 tag r) :=
  congrArg Host.Outcome.next (submit_refused hr (by simp [Config.maxParams]) (by decide)
    (cmdAddException_of_error hl ((addExceptionItem_of_read hx).trans h)))

theorem exec_addException_taken (hr : s.Ready) (hl : s.loadRunning = false) {x : ExceptionSpan × DayClass} {t : State}
    (hx : readException head f1 f2 f3 l1 l2 l3 = some x) (h : s.addRecord .host x = .ok t) :
    exec (.addException tag [head, f1, f2, f3, l1, l2, l3]) s = .next (t.replied 0x20 tag (calendarReply t)) :=
  congrArg Host.Outcome.next (submit_replied hr (by simp [Config.maxParams]) (by decide) (by decide)
    (cmdAddException_of_ok hl ((addExceptionItem_of_read hx).trans h)))

theorem cmdRemoveException_of_read (hl : s.loadRunning = false) {x : ExceptionSpan} (hx : readFirstDay head f1 f2 f3 = some x) :
    cmdRemoveException [head, f1, f2, f3] s = check (s.calendar.records.any fun r => r.span.startsOn x) .notFound
      (.ok (s.keepRecords fun r => !r.span.startsOn x, calendarReply (s.keepRecords fun r => !r.span.startsOn x))) := by
  simp only [cmdRemoveException, hl, Bool.not_false, check_true, hx]

/-- A condition that some record fails is kept by taking those records away, with the class of today computed anew (R59). -/
theorem keepRecords_of_some {keep : ExceptionRecord → Bool} (h : (s.calendar.records.any fun r => !keep r) = true) :
    s.keepRecords keep = ((s.setCalendar { s.calendar with records := s.calendar.records.filter keep }).recomputeToday).raiseCalendar
      .changed := by
  rw [State.keepRecords, if_neg]
  rw [List.any_eq_true] at h
  obtain ⟨r, hr, hk⟩ := h
  exact fun hall => by simp [List.all_eq_true.mp hall r hr] at hk

end

/-- Settles O29: the record added by what judges it, the records removed by the test of their first day. -/
theorem addAndRemoveException : Obligations.AddAndRemoveException := by
  intro s tag head f1 f2 f3 l1 l2 l3 hr hl
  refine ⟨fun x hx => ?_, fun x hx => ?_⟩
  · intro r past clash add
    have hpast : past = true ↔ _ := addRecord_past_iff r
    have hcurrent (h : past = false) : ¬ (s.time.validity = .valid ∧ r.keptOn s.today = false) := by rw [← hpast, h]; simp
    obtain ⟨hbad, hover, hfull, hadd⟩ := addRecord_judged s .host x
    refine ⟨fun h => exec_addException_refused hr hl hx (hbad (hpast.mp h)),
      fun h hc => exec_addException_refused hr hl hx (hover (hcurrent h) hc),
      fun h hc hn => exec_addException_refused hr hl hx (hfull (hcurrent h) hc hn), fun h hc hn => ?_⟩
    rw [← insertException_length r s.calendar.records]
    exact exec_addException_taken hr hl hx (hadd (hcurrent h) hc hn)
  · intro remove kept
    have hcmd := cmdRemoveException_of_read hl hx
    refine ⟨fun h => ?_, fun h => ?_⟩
    · rw [h, check_false] at hcmd
      exact congrArg Host.Outcome.next (submit_refused hr (by simp [Config.maxParams]) (by decide) hcmd)
    · rw [h, check_true, keepRecords_of_some (by simpa using h)] at hcmd
      exact congrArg Host.Outcome.next (submit_replied hr (by simp [Config.maxParams]) (by decide) (by decide) hcmd)

/-! ## LIST_EXCEPTIONS and DAY_CLASS (R57, R58) -/

theorem cmdListExceptions_of_length {p : List Byte} (s : State) (h : p.length ≠ 1) :
    cmdListExceptions p s = .error .badLength := by
  unfold cmdListExceptions
  split
  · exact absurd rfl h
  · rfl

theorem cmdDayClass_of_length {p : List Byte} (s : State) (h : p.length ≠ 3) : cmdDayClass p s = .error .badLength := by
  unfold cmdDayClass
  split
  · exact absurd rfl h
  · rfl

/-- What the rule sends for the dated record that covers a date, else for the annual one, else for none (R52, R58). -/
theorem dayClassReply_lookupRecord (records : List ExceptionRecord) (d : Date) :
    dayClassReply (lookupRecord records d) =
      match records.find? (fun r => !r.span.isAnnual && r.span.covers d),
          records.find? (fun r => r.span.isAnnual && r.span.covers d) with
      | some ⟨.dated first _, cls, _⟩, _ => [byteOf cls.code, 0] ++ writeDate first
      | _, some ⟨.annual first _, cls, _⟩ => [byteOf cls.code, 1] ++ writeMonthDay first
      | _, _ => [0, 2, 0xFF, 0xFF, 0xFF] := by
  unfold lookupRecord
  cases hd : records.find? fun r => !r.span.isAnnual && r.span.covers d with
  | some r =>
    have hkind := List.find?_some hd
    obtain ⟨span, cls, origin⟩ := r
    cases span with
    | dated first last => rfl
    | annual first last => cases hkind
  | none =>
    cases ha : records.find? fun r => r.span.isAnnual && r.span.covers d with
    | none => rfl
    | some r =>
      have hkind := List.find?_some ha
      obtain ⟨span, cls, origin⟩ := r
      cases span with
      | dated first last => cases hkind
      | annual first last => rfl

/-- Settles O30: the lengths and ranges refused, then each command's reply. -/
theorem listAndClassifyDays : Obligations.ListAndClassifyDays := by
  intro s tag p hr hp
  have hmax (b : List Byte) (h : b.length ≤ 3) : b.length ≤ Config.maxParams := h.trans (by decide)
  refine ⟨fun h => ?_, fun c hc => ?_, fun c hc => ?_, fun h => ?_, fun y m d hd => ?_, fun y m d date hd => ?_⟩
  · exact congrArg Host.Outcome.next (submit_refused hr hp (by decide) (cmdListExceptions_of_length s h))
  · refine congrArg Host.Outcome.next (submit_refused hr (hmax _ (by simp)) (by decide) ?_)
    show check (c.toNat ≤ 48) _ _ = _
    rw [decide_eq_false (Nat.not_le.mpr hc), check_false]
  · refine congrArg Host.Outcome.next (submit_replied hr (hmax _ (by simp)) (by decide) (by decide) ?_)
    show check (c.toNat ≤ 48) _ _ = _
    rw [decide_eq_true hc, check_true]
    simp only [List.isEmpty_iff]
  · exact congrArg Host.Outcome.next (submit_refused hr hp (by decide) (cmdDayClass_of_length s h))
  · refine congrArg Host.Outcome.next (submit_refused hr (hmax _ (by simp)) (by decide) ?_)
    show cmdDayClass [y, m, d] s = _
    simp only [cmdDayClass, hd]
  · refine congrArg Host.Outcome.next (submit_replied hr (hmax _ (by simp)) (by decide) (by decide) ?_)
    show cmdDayClass [y, m, d] s = _
    simp only [cmdDayClass, hd]
    exact congrArg (fun b => Except.ok (s, b)) (dayClassReply_lookupRecord _ date)

end Sys2Proof.Machine
end

/-! The commands of the Claim Manager, OVERRIDE, CLEAR_OVERRIDE, HOLD, RELEASE_HOLD and READ_CHANNEL (R68 to R77), and its minute tick,
OVERRIDE_COUNTDOWN (R69). The four that place or remove claims and the tick are one shape: a rule for the claims of one channel, done on
a set of channels, with the targets computed behind it. -/

section
namespace Sys2Proof.Machine

/-! ## A pass over records -/

/-- A pass whose every doing rewrites its own record alone, by a rule that rests on that record, rewrites the records of its list so,
each once. -/
theorem forEach_record {ι α : Type} [DecidableEq ι] {l : List ι} (hl : l.Nodup) {f : State → ι → State} {get : State → ι → α}
    {g : α → α} (hf : ∀ s i j, get (f s i) j = if i = j then g (get s i) else get s j) (s : State) (j : ι) :
    get (s.forEach l f) j = if j ∈ l then g (get s j) else get s j := by
  induction l generalizing s with
  | nil => simp [forEach_nil]
  | cons i l ih =>
    obtain ⟨hi, hl⟩ := List.nodup_cons.mp hl
    rw [forEach_cons, ih hl, hf]
    by_cases hj : i = j
    · subst hj; simp [hi]
    · simp [hj, Ne.symm hj]

/-! ## The relays stand -/

/-- Every driven state and every pin stands. -/
def State.SameRelays (s t : State) : Prop := ∀ c,
  (t.chan c).driven = (s.chan c).driven ∧ (t.chan c).pinA = (s.chan c).pinA ∧ (t.chan c).pinB = (s.chan c).pinB

theorem State.SameRelays.refl (s : State) : s.SameRelays s := fun _ => ⟨rfl, rfl, rfl⟩

theorem State.SameRelays.trans {s t u : State} (h : s.SameRelays t) (k : t.SameRelays u) : s.SameRelays u := by
  intro c
  obtain ⟨hd, ha, hb⟩ := h c
  obtain ⟨kd, ka, kb⟩ := k c
  exact ⟨kd.trans hd, ka.trans ha, kb.trans hb⟩

theorem State.SameRelays.forEach {f : State → Chan → State} (hf : ∀ (s : State) (c : Chan), s.SameRelays (f s c))
    (l : List Chan) (s : State) : s.SameRelays (s.forEach l f) :=
  forEach_rel State.SameRelays .refl (fun _ _ _ => .trans) l f hf s

theorem setChan_relays (s : State) (c : Chan) {x : Channel} (hd : x.driven = (s.chan c).driven) (ha : x.pinA = (s.chan c).pinA)
    (hb : x.pinB = (s.chan c).pinB) : s.SameRelays (s.setChan c x) := by
  intro d
  rw [chan_setChan]
  split
  · next h => subst h; exact ⟨hd, ha, hb⟩
  · exact ⟨rfl, rfl, rfl⟩

theorem setClaims_relays (s : State) (c : Chan) (l : List Claim) : s.SameRelays (s.setClaims c l) := setChan_relays s c rfl rfl rfl

theorem raise_relays (s : State) (k : ChangeKind) (n : Nat) (r : Word) : s.SameRelays (s.raise k n r) :=
  .refl s

theorem setEngine_relays (s : State) (x : SwitchingEngine) : s.SameRelays (s.setEngine x) :=
  .refl s

theorem setSwitch_relays (s : State) (c : Chan) (x : SwitchState) : s.SameRelays (s.setSwitch c x) :=
  setChan_relays s c rfl rfl rfl

/-- A target change joins or leaves the switch queue and drives nothing (R88). -/
theorem targetArrives_relays (s : State) (c : Chan) (t : Bool) : s.SameRelays (s.targetArrives c t) := by
  obtain h | h | h := targetArrives_cases s c t <;> rw [h]
  · exact .refl s
  · exact (setSwitch_relays s c .queued).trans (setEngine_relays _ _)
  · exact (setSwitch_relays s c .idle).trans (setEngine_relays _ _)

theorem retarget_relays (s : State) (c : Chan) : s.SameRelays (s.retarget c) := by
  unfold State.retarget
  dsimp only
  split
  · exact .refl s
  · exact ((setChan_relays s c (by rfl) (by rfl) (by rfl)).trans (raise_relays _ _ _ _)).trans (targetArrives_relays _ _ _)

theorem dropOverride_relays (s : State) (c : Chan) : s.SameRelays (s.dropOverride c) := by
  unfold State.dropOverride
  split
  · exact (setClaims_relays s c _).trans (raise_relays _ _ _ _)
  · exact .refl s

/-! ## Rules for the claims of one channel -/

/-- An operation that rewrites the claims of its channel by the rule `g`, told the calendar minute of now, and drives no relay. -/
def ClaimRule (f : State → Chan → State) (g : CalMinute → List Claim → List Claim) : Prop := ∀ (s : State) (c : Chan),
  s.OnChannels (· = c) (f s c) ∧ s.SameRelays (f s c) ∧ ((f s c).chan c).claims = g s.now (s.chan c).claims

/-- What is left by rewriting the claims of the channels of a list by the rule `g`, the targets computed behind it. -/
def State.ClaimsRewritten (cs : List Chan) (g : List Claim → List Claim) (s t : State) : Prop :=
  s.OnChannels (· ∈ cs) t ∧ s.SameRelays t ∧ ∀ c ∈ cs, (t.chan c).claims = g (s.chan c).claims ∧
    (t.chan c).target = targetOf (t.chan c).claims (s.chan c).config.rest

section
variable {f : State → Chan → State} {g : CalMinute → List Claim → List Claim}

theorem ClaimRule.on (h : ClaimRule f g) (s : State) (c : Chan) : s.OnChannels (· = c) (f s c) := (h s c).left

theorem ClaimRule.relays (h : ClaimRule f g) (s : State) (c : Chan) : s.SameRelays (f s c) := (h s c).right.left

theorem ClaimRule.claims (h : ClaimRule f g) (s : State) (c : Chan) : ((f s c).chan c).claims = g s.now (s.chan c).claims :=
  (h s c).right.right

theorem ClaimRule.claims_forEach (h : ClaimRule f g) {cs : List Chan} (hcs : cs.Nodup) (s : State) (d : Chan) :
    ((s.forEach cs f).chan d).claims = if d ∈ cs then g s.now (s.chan d).claims else (s.chan d).claims := by
  have hf (s : State) (c d : Chan) : (((f s c).chan d).claims, (f s c).now) =
      if c = d then (g s.now (s.chan c).claims, s.now) else ((s.chan d).claims, s.now) := by
    rw [(h.on s c).now]
    split
    · next hd => rw [← hd, h.claims]
    · next hd => rw [(h.on s c).others d (Ne.symm hd)]
  have hpass := congrArg Prod.fst (forEach_record hcs (get := fun s c => ((s.chan c).claims, s.now))
    (g := fun x => (g x.2 x.1, x.2)) hf s d)
  exact hpass.trans (apply_ite Prod.fst _ _ _)

theorem ClaimRule.pass (h : ClaimRule f g) {cs : List Chan} (hcs : cs.Nodup) (s : State) :
    s.ClaimsRewritten cs (g s.now) ((s.forEach cs f).retargetAll cs) := by
  have hpass : s.OnChannels (· ∈ cs) (s.forEach cs f) := .forEach (fun _ hc => hc) h.on s
  have hend := retargetAll_onChannels (s.forEach cs f) cs
  refine ⟨hpass.trans hend, (State.SameRelays.forEach h.relays cs s).trans (.forEach retarget_relays cs _), fun c hc => ⟨?_, ?_⟩⟩
  · rw [retargetAll_claims, h.claims_forEach hcs, if_pos hc]
  · rw [retargetAll_wanted _ hc, Channel.wanted, hend.config, hpass.config]

end

theorem dropOverride_rule : ClaimRule State.dropOverride fun _ l => withoutOverride l := fun s c =>
  ⟨dropOverride_onChannels s c, dropOverride_relays s c, by rw [dropOverride_claims, if_pos rfl]⟩

theorem putOverride_rule (a : Bool) (o : OverrideOrigin) (e : OverrideEnding) : ClaimRule (fun s c => s.putOverride c a o e)
    fun m l => insertClaim ⟨.override o e Config.capMinutes, a, m⟩ (withoutOverride l) := fun s c =>
  ⟨(dropOverride_onChannels s c).trans (setClaims_onChannels _ c _), (dropOverride_relays s c).trans (setClaims_relays _ c _),
    by rw [putOverride_claims, (dropOverride_onChannels s c).now]⟩

theorem putHold_rule (a : Bool) : ClaimRule (fun s c => s.putHold c a)
    fun m l => insertClaim ⟨.hold, a, m⟩ (l.filter fun x => !x.isHold) := fun s c =>
  ⟨setClaims_onChannels s c _, setClaims_relays s c _, setClaims_claims s c _⟩

theorem dropHold_rule : ClaimRule State.dropHold fun _ l => l.filter fun x => !x.isHold := fun s c =>
  ⟨setClaims_onChannels s c _, setClaims_relays s c _, setClaims_claims s c _⟩

/-- A list after one minute of its override (R69). -/
def countedDown (l : List Claim) : List Claim :=
  let lowered := l.map Claim.lowered
  if lowered.any Claim.runOut then withoutOverride lowered else lowered

theorem countdownChannel_relays (s : State) (c : Chan) : s.SameRelays (s.countdownChannel c) := by
  unfold State.countdownChannel
  dsimp only
  split
  · exact (setClaims_relays s c _).trans (dropOverride_relays _ c)
  · exact setClaims_relays s c _

theorem countdownChannel_rule : ClaimRule State.countdownChannel fun _ l => countedDown l := by
  refine fun s c => ⟨countdownChannel_channelOp.on s c, countdownChannel_relays s c, ?_⟩
  unfold State.countdownChannel countedDown
  dsimp only
  rw [setClaims_claims]
  split
  · rw [dropOverride_claims, if_pos rfl, setClaims_claims]
  · exact setClaims_claims s c _

/-! ## The commands (R73 to R76) -/

section
variable {hi lo a e m1 m0 : Byte} {s : State}

/-- Every command on a channel set refuses the empty set. -/
theorem check_of_empty {w : Word} (h : w = 0) (r : Result) (go : Answer) : check (w != 0) r go = .error r := by
  rw [h]; rfl

theorem check_of_nonempty {w : Word} (h : w ≠ 0) (r : Result) (go : Answer) : check (w != 0) r go = go := by
  rw [bne_iff_ne.mpr h, check_true]

theorem cmdOverride_of_bad (h : readFlag a = none ∨ readEnding e m1 m0 = none ∨ readSet hi lo = 0) :
    cmdOverride [hi, lo, a, e, m1, m0] s = .error .badField := by
  cases ha : readFlag a with
  | none => simp only [cmdOverride, ha]
  | some on =>
    cases he : readEnding e m1 m0 with
    | none => simp only [cmdOverride, ha, he]
    | some en =>
      have hset : readSet hi lo = 0 := by simpa [ha, he] using h
      simp only [cmdOverride, ha, he, check_of_empty hset]

theorem cmdOverride_of_read {on : Bool} {en : OverrideEnding} (ha : readFlag a = some on) (he : readEnding e m1 m0 = some en)
    (hset : readSet hi lo ≠ 0) :
    let cs := channelsOf (readSet hi lo)
    let t := (s.forEach cs fun s c => s.putOverride c on .host en).retargetAll cs
    cmdOverride [hi, lo, a, e, m1, m0] s = .ok (t, writeSet (changedTargets s t cs)) := by
  simp only [cmdOverride, ha, he, check_of_nonempty hset]

theorem cmdHold_of_bad (h : readFlag a = none ∨ readSet hi lo = 0) : cmdHold [hi, lo, a] s = .error .badField := by
  cases ha : readFlag a with
  | none => simp only [cmdHold, ha]
  | some on =>
    have hset : readSet hi lo = 0 := by simpa [ha] using h
    simp only [cmdHold, ha, check_of_empty hset]

theorem cmdHold_of_read {on : Bool} (ha : readFlag a = some on) (hset : readSet hi lo ≠ 0) :
    let cs := channelsOf (readSet hi lo)
    let t := (s.forEach cs fun s c => s.putHold c on).retargetAll cs
    cmdHold [hi, lo, a] s = .ok (t, writeSet (changedTargets s t cs)) := by
  simp only [cmdHold, ha, check_of_nonempty hset]

end

/-- Settles O31: each command is a claim rule done on its set. -/
theorem overridePlacesAndClears : Obligations.OverridePlacesAndClears := by
  intro s tag hi lo a e m1 m0 hr cs
  have hcs : cs.Nodup := channelsOf_nodup _
  have hlen : [hi, lo, a, e, m1, m0].length ≤ Config.maxParams := by simp [Config.maxParams]
  have hlen2 : [hi, lo].length ≤ Config.maxParams := by simp [Config.maxParams]
  refine ⟨fun h => congrArg Host.Outcome.next (submit_refused hr hlen (by decide) (cmdOverride_of_bad h)),
    fun on en ha he hset => ?_,
    fun h => congrArg Host.Outcome.next (submit_refused hr hlen2 (by decide) (check_of_empty h _ _)), fun hset => ?_⟩
  · obtain ⟨hon, hrelays, hclaims⟩ := (putOverride_rule on .host en).pass hcs s
    refine ⟨_, congrArg Host.Outcome.next (submit_replied hr hlen (by decide) (by decide) (cmdOverride_of_read ha he hset)),
      hon.same, hon.table, hon.calendar, hon.freeCount, hon.others, fun c hc => ?_⟩
    obtain ⟨hclaim, htarget⟩ := hclaims c hc
    exact ⟨hclaim, htarget, hon.config c, hrelays c⟩
  · obtain ⟨hon, hrelays, hclaims⟩ := dropOverride_rule.pass hcs s
    refine ⟨_, congrArg Host.Outcome.next (submit_replied hr hlen2 (by decide) (by decide) (check_of_nonempty hset _ _)),
      hon.same, hon.table, hon.calendar, hon.freeCount, hon.others, fun c hc => ?_⟩
    obtain ⟨hclaim, htarget⟩ := hclaims c hc
    exact ⟨hclaim, htarget, hon.config c, hrelays c⟩

/-- Settles O32: each command is a claim rule done on its set. -/
theorem holdPlacesAndReleases : Obligations.HoldPlacesAndReleases := by
  intro s tag hi lo a hr cs
  have hcs : cs.Nodup := channelsOf_nodup _
  have hlen : [hi, lo, a].length ≤ Config.maxParams := by simp [Config.maxParams]
  have hlen2 : [hi, lo].length ≤ Config.maxParams := by simp [Config.maxParams]
  refine ⟨fun h => congrArg Host.Outcome.next (submit_refused hr hlen (by decide) (cmdHold_of_bad h)), fun on ha hset => ?_,
    fun h => congrArg Host.Outcome.next (submit_refused hr hlen2 (by decide) (check_of_empty h _ _)), fun hset => ?_⟩
  · obtain ⟨hon, hrelays, hclaims⟩ := (putHold_rule on).pass hcs s
    exact ⟨_, congrArg Host.Outcome.next (submit_replied hr hlen (by decide) (by decide) (cmdHold_of_read ha hset)),
      hon.same, hon.table, hon.calendar, hon.freeCount, hon.others,
      fun c hc => have ⟨hclaim, htarget⟩ := hclaims c hc
        ⟨hclaim, htarget, hon.config c, (hrelays c).left⟩⟩
  · obtain ⟨hon, hrelays, hclaims⟩ := dropHold_rule.pass hcs s
    exact ⟨_, congrArg Host.Outcome.next (submit_replied hr hlen2 (by decide) (by decide) (check_of_nonempty hset _ _)),
      hon.same, hon.table, hon.calendar, hon.freeCount, hon.others,
      fun c hc => have ⟨hclaim, htarget⟩ := hclaims c hc
        ⟨hclaim, htarget, hon.config c, (hrelays c).left⟩⟩

/-! ## READ_CHANNEL (R77) -/

theorem readChannelNo_of_le {b : Byte} (h : 16 ≤ b.toNat) : readChannelNo b = none := by
  rw [readChannelNo, dif_neg (Nat.not_lt.mpr h)]

theorem readChannelNo_of_eq {b : Byte} {c : Chan} (h : b.toNat = c.val) : readChannelNo b = some c := by
  rw [readChannelNo, dif_pos (h ▸ c.isLt)]
  exact congrArg some (Fin.ext h)

/-- Settles O33: a channel or a position out of range is refused, and any other is answered by the channel as it stands. -/
theorem readChannelReturnsState : Obligations.ReadChannelReturnsState := by
  intro s tag n pos hr
  have hlen : [n, pos].length ≤ Config.maxParams := by simp [Config.maxParams]
  refine ⟨fun h => congrArg Host.Outcome.next (submit_refused hr hlen (by decide) ?_), fun c hn hpos =>
    congrArg Host.Outcome.next (submit_replied hr hlen (by decide) (by decide) ?_)⟩
  · show cmdReadChannel [n, pos] s = _
    cases hc : readChannelNo n with
    | none => simp only [cmdReadChannel, hc]
    | some c =>
      have hpos : ¬ pos.toNat ≤ 130 := by
        obtain h | h := h
        · rw [readChannelNo_of_le h] at hc; cases hc
        · exact Nat.not_le.mpr h
      simp only [cmdReadChannel, hc, decide_eq_false hpos, check_false]
  · show cmdReadChannel [n, pos] s = _
    simp only [cmdReadChannel, readChannelNo_of_eq hn, decide_eq_true hpos, check_true, List.isEmpty_iff, writeConfig]

/-! ## OVERRIDE_COUNTDOWN (R69) -/

/-- Settles O34: the tick is a claim rule done on every channel. -/
theorem overrideCountdownLowers : Obligations.OverrideCountdownLowers := by
  intro s dt
  have hexec : exec (.overrideCountdown dt) s = .next (s.elapse dt).takeClaimTick := rfl
  rw [hexec]
  generalize s.elapse dt = u
  refine ⟨fun howed hrun => ?_, fun howed => ?_⟩
  · obtain ⟨hon, hrelays, hclaims⟩ :=
      countdownChannel_rule.pass allChannels_nodup (u.setTimeBase { u.time with claimTickOwed := false })
    have htick : u.takeClaimTick = (u.setTimeBase { u.time with claimTickOwed := false }).countdownOverrides := by
      simp [State.takeClaimTick, howed, hrun]
    refine ⟨_, congrArg Host.Outcome.next htick, hon.table, hon.freeCount, hon.same.time, hon.same.store,
      hon.same.supply, fun c => ?_⟩
    obtain ⟨hclaim, htarget⟩ := hclaims c (mem_allChannels c)
    exact ⟨hclaim, htarget, hon.config c, (hrelays c).left⟩
  · simp [State.takeClaimTick, howed]

end Sys2Proof.Machine
end

/-! ENTER_BACKUP (R144) at every block: each block's own entry to BACKUP as the replacement of that block, reasons aside. -/

section
namespace Sys2Proof.Machine

/-! ## Reasons added -/

/-- `t` is `s` with reasons added to its change set. -/
def State.Raised (s t : State) : Prop :=
  (∃ x, t = s.setPort { s.port with changes := x }) ∧ ∀ k n b, s.Reports k n b → t.Reports k n b

section
variable {s t u : State}

theorem State.Raised.refl (s : State) : s.Raised s := ⟨⟨s.port.changes, rfl⟩, fun _ _ _ h => h⟩

theorem State.Raised.trans (h : s.Raised t) (k : t.Raised u) : s.Raised u := by
  obtain ⟨⟨x, rfl⟩, ht⟩ := h
  obtain ⟨⟨y, rfl⟩, hu⟩ := k
  exact ⟨⟨y, rfl⟩, fun k n b h => hu k n b (ht k n b h)⟩

/-- Reasons added first stand through the replacement of a block other than the port. -/
theorem State.Raised.replace (h : s.Raised t) {f : State → State} (hf : ∀ u x, f (u.setPort x) = (f u).setPort x)
    (hp : ∀ u, (f u).port = u.port) : (f s).Raised (f t) := by
  obtain ⟨⟨x, rfl⟩, ht⟩ := h
  refine ⟨⟨x, by rw [hf, hp]⟩, fun k n b hr => ?_⟩
  simp only [State.Reports, hp] at hr ⊢
  exact ht k n b hr

end

theorem raise_raised (s : State) (k : ChangeKind) (n : Nat) (r : Word) : s.Raised (s.raise k n r) :=
  ⟨⟨_, rfl⟩, fun _ _ _ => raise_keeps_reports k n r⟩

/-! ## The line and the seconds (R126, R140) -/

theorem updateLine_raised (s : State) (l : LineMonitor) : (s.setLine l).Raised (s.updateLine l) := by
  unfold State.updateLine
  dsimp only
  split
  · exact .refl _
  · exact raise_raised _ _ _ _

/-- A judgement of the source replaces the Time Base, its calendar time kept. -/
theorem judgeSource_raised (s : State) :
    ∃ x : TimeBase, x.time = s.time.time ∧ x.source = s.judgedSource ∧ (s.setTimeBase x).Raised s.judgeSource := by
  have hbase : ∃ x : TimeBase, (s.setTimeBase x).Raised s.judgeSource ∧ x.time = s.time.time := by
    unfold State.judgeSource
    split
    · exact ⟨s.time, .refl s, rfl⟩
    · cases s.judgedSource with
      | line => exact ⟨_, .refl _, rfl⟩
      | crystal =>
        unfold State.handToCrystal State.makeDoubtful
        dsimp only
        split
        · exact ⟨_, .refl _, rfl⟩
        · split
          · exact ⟨_, raise_raised _ _ _ _, rfl⟩
          · exact ⟨_, .refl _, rfl⟩
  obtain ⟨x, hx, htime⟩ := hbase
  refine ⟨x, htime, ?_, hx⟩
  rw [← judgeSource_source]
  obtain ⟨⟨y, hy⟩, -⟩ := hx
  rw [hy]
  rfl

theorem loseLine_raised (s : State) : ∃ x : TimeBase, x.time = s.time.time ∧ x.source = .crystal ∧
    ((s.setLine s.line.gone).setTimeBase x).Raised s.loseLine := by
  have hline := updateLine_raised s s.line.gone
  obtain ⟨x, htime, hsource, hx⟩ := judgeSource_raised (s.updateLine s.line.gone)
  have ⟨⟨y, hy⟩, _⟩ := hline
  refine ⟨x, ?_, ?_, (hline.replace (f := (·.setTimeBase x)) (fun _ _ => rfl) fun _ => rfl).trans hx⟩
  · rw [htime, hy]; rfl
  · rw [hsource, hy]; simp [State.judgedSource, LineMonitor.gone, LineMonitor.cold]

/-! ## The light (R120) -/

/-- The Light Monitor after entering BACKUP (R120). -/
def LightMonitor.dark (l : LightMonitor) : LightMonitor := { l.restart .unknown with lastSample := none }

theorem updateLight_raised (s : State) (l : LightMonitor) : (s.setLight l).Raised (s.updateLight l) := by
  unfold State.updateLight
  dsimp only
  split
  · exact .refl _
  · exact raise_raised _ _ _ _

/-! ## The relays (R99) -/

/-- A channel after entering BACKUP. -/
def Channel.abandoned (ch : Channel) : Channel :=
  { ch with driven := ch.abandonedDriven, switch := .idle, pinA := false, pinB := false }

theorem abandon_raised (s : State) (c : Chan) : (s.setChan c (s.chan c).abandoned).Raised (s.abandon c) := by
  unfold State.abandon State.reportDriven
  dsimp only
  split
  · exact .refl _
  · exact raise_raised _ _ _ _

theorem abandon_chan (s : State) (c d : Chan) : (s.abandon c).chan d = if c = d then (s.chan c).abandoned else s.chan d := by
  obtain ⟨⟨x, hx⟩, -⟩ := abandon_raised s c
  rw [hx]
  exact chan_setChan s c d _

@[simp] theorem setEngine_chan (s : State) (x : SwitchingEngine) (c : Chan) : (s.setEngine x).chan c = s.chan c := rfl

theorem abandonAll_chan (s : State) (c : Chan) : s.abandonAll.chan c = (s.chan c).abandoned := by
  rw [State.abandonAll, setEngine_chan,
    forEach_record allChannels_nodup (get := State.chan) (g := Channel.abandoned) abandon_chan, if_pos (mem_allChannels c)]

theorem abandonAll_raised (s : State) :
    ∃ x, ((s.setChannels x).setEngine { s.engine with queue := [] }).Raised s.abandonAll := by
  have hpass : ∃ x, (s.setChannels x).Raised (s.forEach allChannels State.abandon) :=
    forEach_keeps (f := State.abandon) (P := fun t => ∃ x, (s.setChannels x).Raised t) (fun t c _ ⟨_, hx⟩ =>
      ⟨_, (hx.replace (f := (·.setChannels (t.channels.set c (t.chan c).abandoned))) (fun _ _ => rfl) fun _ => rfl).trans
        (abandon_raised t c)⟩) ⟨s.channels, .refl s⟩
  obtain ⟨x, hx⟩ := hpass
  have hengine : (s.forEach allChannels State.abandon).engine = s.engine := by
    obtain ⟨⟨y, hy⟩, -⟩ := hx
    rw [hy]; rfl
  refine ⟨x, ?_⟩
  rw [State.abandonAll, hengine]
  exact hx.replace (f := (·.setEngine _)) (fun _ _ => rfl) fun _ => rfl

/-! ## The buttons (R107) -/

theorem releaseButton_button (s : State) (b d : ButtonNo) :
    (s.releaseButton b).button d = if b = d then { s.button b with press := .released } else s.button d :=
  button_setButton s b d _

theorem allButtons_nodup : allButtons.Nodup := List.nodup_finRange 4

theorem mem_allButtons (b : ButtonNo) : b ∈ allButtons := List.mem_finRange b

theorem releaseAll_button (s : State) (b : ButtonNo) :
    (s.forEach allButtons State.releaseButton).button b = { s.button b with press := .released } := by
  rw [forEach_record allButtons_nodup (get := State.button) (g := fun x => { x with press := .released })
    releaseButton_button, if_pos (mem_allButtons b)]

theorem releaseAll_eq (s : State) : ∃ x, s.forEach allButtons State.releaseButton = s.setButtons x :=
  forEach_keeps (f := State.releaseButton) (P := fun t => ∃ x, t = s.setButtons x)
    (fun t b _ ⟨x, h⟩ => ⟨x.set b { t.button b with press := .released }, by
      rw [State.releaseButton, State.setPress, State.setButton, h]; rfl⟩) ⟨s.buttons, rfl⟩

/-! ## The supply, the store and the port (R144, R157, R166, R179) -/

/-- The record of a load once the supply has fallen: a running load is INTERRUPTED (R166). -/
def State.loadInterrupted (s : State) : LoadRecord :=
  if s.loadRunning then { s.store.load with state := .interrupted, phase := none } else s.store.load

theorem interruptLoad_eq (s : State) : s.interruptLoad =
    (s.setLoad s.loadInterrupted).setSupply { s.supply with loadPending := s.supply.loadPending || s.loadRunning } := by
  unfold State.interruptLoad State.loadInterrupted
  cases s.loadRunning with
  | true => rw [if_pos rfl, if_pos rfl, Bool.or_true]
  | false => rw [if_neg Bool.false_ne_true, if_neg Bool.false_ne_true, Bool.or_false]; rfl

theorem cutProgramming_eq (s : State) : ∃ array n,
    s.cutProgramming = (s.setStore { s.store with array := array, programming := none }).setFreeIndex n := by
  unfold State.cutProgramming
  cases hp : s.store.programming with
  | none =>
    have hstore : { s.store with programming := none } = s.store := by rw [← hp]
    exact ⟨s.store.array, s.freeIndex, by rw [hstore]; rfl⟩
  | some pr => exact ⟨_, _, rfl⟩

/-- The part once the load, the supply and the port have taken the entry to BACKUP. -/
def State.portLost (s : State) : State :=
  let u := s.interruptLoad
  let v := (u.setSupply (u.supply.fail u.now)).raiseSystem .supply
  v.setPort v.port.quiet

/-- The part once the supply, the store and the port have taken the entry to BACKUP. -/
def State.supplyLost (s : State) : State := s.portLost.cutProgramming

theorem supplyLost_eq (s : State) : ∃ array n, s.supplyLost =
    (((s.setStore { s.store with load := s.loadInterrupted, array := array, programming := none }).setSupply
      { s.supply.fail s.now with loadPending := s.supply.loadPending || s.loadRunning }).setPort
      { s.port.quiet with changes := addReasons .system 0 SystemReason.supply.bit s.port.changes }).setFreeIndex n := by
  obtain ⟨array, n, h⟩ := cutProgramming_eq s.portLost
  refine ⟨array, n, h.trans ?_⟩
  rw [State.portLost, interruptLoad_eq]
  simp only [State.setLoad, State.setStore, State.setSupply, State.setPort, State.setFreeIndex, State.raiseSystem, State.raise,
    SupplyController.fail, HostPort.quiet, State.now]

theorem enterBackup_eq {s : State} (h : s.supply.state ≠ .backup) :
    s.enterBackup = s.supplyLost.abandonAll.loseLine.darkenLight.forEach allButtons State.releaseButton := if_neg h

/-! ## The row -/

/-- From the loss of the supply on, the entry to BACKUP replaces the relays, the line, the seconds, the light and the buttons, each by
itself, and adds reasons. -/
theorem backup_blocks (v : State) :
    let t := v.abandonAll.loseLine.darkenLight.forEach allButtons State.releaseButton
    (∀ c, t.chan c = (v.chan c).abandoned) ∧ t.time.time = v.time.time ∧ t.time.source = .crystal ∧
    (∀ b, t.button b = { v.button b with press := .released }) ∧
    (∀ k n b, v.Reports k n b → t.Reports k n b) ∧
    ∃ channels time buttons x, t = ((((((v.setChannels channels).setEngine { v.engine with queue := [] }).setLine
      v.line.gone).setTimeBase time).setLight v.light.dark).setButtons buttons).setPort { v.port with changes := x } := by
  intro t
  obtain ⟨channels, hrelays⟩ := abandonAll_raised v
  obtain ⟨time, htime, hsource, hline⟩ := loseLine_raised v.abandonAll
  obtain ⟨buttons, hbuttons⟩ := releaseAll_eq v.abandonAll.loseLine.darkenLight
  have hbutton (b : ButtonNo) : t.button b = _ := releaseAll_button v.abandonAll.loseLine.darkenLight b
  have hchan := abandonAll_chan v
  have hlight := updateLight_raised v.abandonAll.loseLine v.abandonAll.loseLine.light.dark
  change t = _ at hbuttons
  clear_value t
  change State.Raised _ v.abandonAll.loseLine.darkenLight at hlight
  generalize v.abandonAll.loseLine.darkenLight = d at *
  generalize v.abandonAll.loseLine = l at *
  generalize v.abandonAll = r at *
  obtain ⟨⟨x, rfl⟩, hr⟩ := hrelays
  obtain ⟨⟨y, rfl⟩, hl⟩ := hline
  obtain ⟨⟨z, rfl⟩, hd⟩ := hlight
  subst hbuttons
  refine ⟨fun c => Eq.trans ?_ (hchan c), ?_, hsource, fun b => (hbutton b).trans ?_,
    fun k n b h => hd k n b (hl k n b (hr k n b h)), channels, time, buttons, z, ?_⟩
  · simp [State.chan]
  · simpa using htime
  · simp [State.button]
  · simp only [State.setPort, State.setButtons, State.setLight, State.setTimeBase, State.setLine, State.setEngine, State.setChannels]

/-- Settles O50: the supply, the store and the port first, then the blocks that follow them. -/
theorem enterBackupAtEveryBlock : Obligations.EnterBackupAtEveryBlock := by
  intro s dt u hup
  have hexec : exec (.enterBackup dt) s = .next u.enterBackup := rfl
  clear_value u
  have hkept := enterBackup_schedule u
  have hcalendar := enterBackup_calendar u
  obtain ⟨hchan, htime, hsource, hbutton, hreports, channels, time, buttons, x, hx⟩ := backup_blocks u.supplyLost
  obtain ⟨array, n, hlost⟩ := supplyLost_eq u
  rw [← enterBackup_eq hup] at hchan htime hsource hbutton hx hreports
  have hsupply : u.supplyLost.Reports .system 0 1 := by
    have hbit : SystemReason.supply.bit.getLsbD 1 = true := by decide
    simp only [hlost, State.Reports, State.setFreeIndex_port, State.setPort_port]
    exact addReasons_reports _ hbit
  refine ⟨u.enterBackup, hexec, ?_, fun hl => ?_, fun hl => ?_, ?_, ?_, ?_, ?_, fun c => (hchan c).trans ?_, ?_, hsource,
    htime.trans ?_, ?_, fun b => (hbutton b).trans ?_, hkept.table, hcalendar, hkept.freeCount⟩
  · rw [hx, hlost]; rfl
  · rw [hx, hlost]; exact if_pos hl
  · rw [hx, hlost]; exact if_neg (by simp [hl])
  · rw [hx, hlost]; rfl
  · rw [hx, hlost]; rfl
  · obtain ⟨i, hi, hkind, -, hbit⟩ := hreports _ _ _ hsupply
    exact ⟨i, hi, hkind, hbit⟩
  · rw [hx, hlost]; rfl
  · have hstand : u.supplyLost.channels = u.channels := by rw [hlost]; simp
    rw [State.chan, hstand]; rfl
  · rw [hx, hlost]; rfl
  · rw [hlost]; rfl
  · rw [hx, hlost]; rfl
  · have hstand : u.supplyLost.buttons = u.buttons := by rw [hlost]; simp
    rw [State.button, hstand]; rfl

end Sys2Proof.Machine
end

/-! The Button Unit: CONFIGURE_BUTTON and READ_BUTTON (R104, R105), what an edge and an instant of the timing make of each press state
(R106), and the press actions as claim rules done on the unheld channels of a set (R108 to R110). -/

section
namespace Sys2Proof.Machine

/-! ## The commands (R104, R105) -/

section
variable {s : State} {tag n : Byte} {b : ButtonNo}

theorem readButtonNo_of_eq (h : n.toNat = b.val) : readButtonNo n = some b := by
  rw [readButtonNo, dif_pos (h ▸ b.isLt)]
  exact congrArg some (Fin.ext h)

theorem State.Ready.supply (h : s.Ready) : s.supply.state ≠ .backup := by
  have hactive := h.active
  simp only [State.portActive, Bool.and_eq_true, bne_iff_ne] at hactive
  exact hactive.left

/-- Turned on outside BACKUP, a button becomes examinable at once (R107). -/
theorem newPress_turned_on (hup : s.supply.state ≠ .backup) (hoff : (s.button b).enabled = false) :
    s.newPress b true = if (s.button b).sampledLow then .longDone none else .released := by
  simp [State.newPress, hoff, hup, Button.atExamination]

theorem cmdConfigureButton_of_ok {p : List Byte} {t : State} (hl : s.loadRunning = false) (h : buttonItem p s = .ok (b, t)) :
    cmdConfigureButton p s = .ok (t, writeSettings (t.button b) ++ [(t.button b).press.code]) := by
  simp only [cmdConfigureButton, hl, Bool.not_false, check_true, h]

theorem cmdConfigureButton_of_error {p : List Byte} {r : Result} (hl : s.loadRunning = false) (h : buttonItem p s = .error r) :
    cmdConfigureButton p s = .error r := by
  simp only [cmdConfigureButton, hl, Bool.not_false, check_true, h]

theorem cmdReadButton_of_read (hn : readButtonNo n = some b) :
    cmdReadButton [n] s = .ok (s, writeSettings (s.button b) ++ [(s.button b).press.code,
      if (s.button b).sampledLow then 1 else 0, (s.button b).lastOutcome.code] ++ orAbsent 5 writeMinute (s.button b).lastMinute) := by
  simp only [cmdReadButton, hn]

/-- Only 1 reads as a flag that is on. -/
theorem eq_one_of_readFlag {on : Byte} (h : readFlag on = some true) : on = 1 := by
  unfold readFlag at h
  split at h
  · cases h
  · split at h
    · next hone => exact beq_iff_eq.mp hone
    · cases h

end

/-- Settles O39: the settings stored by what reads them, with the press state that the enabled flag gives. -/
theorem buttonCommands : Obligations.ButtonCommands := by
  intro s tag n hi lo e m1 m0 on b en flag hr hn
  have hb := readButtonNo_of_eq hn
  have hlen : [n, hi, lo, e, m1, m0, on].length ≤ Config.maxParams := by simp [Config.maxParams]
  refine ⟨fun hl hen hon hset => ⟨s.newPress b flag, ?_, ?_, ?_, ?_⟩, fun hl hon hset => ?_, ?_⟩
  · have hcmd := cmdConfigureButton_of_ok hl (buttonItem_of_ok hb hen hon hset)
    rw [applyButton_eq, button_setButton, if_pos rfl] at hcmd
    have hreply : s.submit 0x40 tag [n, hi, lo, e, m1, m0, on] = _ := submit_replied hr hlen (by decide) (by decide) hcmd
    refine congrArg Host.Outcome.next (hreply.trans ?_)
    simp [writeSettings, writeEnding, writeFlag]
  · rintro rfl
    rfl
  · rintro rfl hen
    simp [State.newPress, hen]
  · rintro rfl hoff
    exact newPress_turned_on hr.supply hoff
  · have hbad : buttonItem [n, hi, lo, e, m1, m0, on] s = .error .badField :=
      buttonItem_of_bad (.inr (.inr (.inr ⟨eq_one_of_readFlag hon, hset⟩)))
    exact congrArg Host.Outcome.next (submit_refused hr hlen (by decide) (cmdConfigureButton_of_error hl hbad))
  · have hreply : s.submit 0x41 tag [n] = _ :=
      submit_replied hr (by simp [Config.maxParams]) (by decide) (by decide) (cmdReadButton_of_read hb)
    refine congrArg Host.Outcome.next (hreply.trans ?_)
    simp [writeSettings, writeEnding, writeFlag]

/-! ## The durations of a press (R106, R124) -/

theorem debounceCycles_eq : debounceCycles = 983 := by decide

theorem shortPressCycles_eq : shortPressCycles = 49152 := by decide

theorem longPressCycles_eq : longPressCycles = 98304 := by decide

/-! ## What each press state makes of an edge or an instant (R106) -/

/-- A button whose input has just been taken at a level, in a press state. -/
def State.withInput (s : State) (b : ButtonNo) (low : Bool) (p : PressState) : State :=
  s.setButton b { s.button b with pinLow := low, sampledLow := low, press := p }

/-- The action of a press noted, and the press state it leaves (R103, R106). -/
def State.endPress (s : State) (b : ButtonNo) (o : PressOutcome) (p : PressState) : State :=
  s.setButton b { s.button b with lastOutcome := o, lastMinute := some s.now, press := p }

theorem setPress_setLastAction (s : State) (b : ButtonNo) (o : PressOutcome) (p : PressState) :
    (s.setLastAction b o).setPress b p = s.endPress b o p := by
  simp only [State.setPress, State.setLastAction, State.endPress, button_setButton, if_pos, State.setButton_setButton]

section
variable {s : State} {b : ButtonNo} {p h : Nat}

theorem examined_of_enabled (hon : (s.button b).enabled = true) (hup : s.supply.state ≠ .backup) : s.examined b = true := by
  simp [State.examined, hon, hup]

/-! ### Releases -/

section
variable (hx : s.examined b = true) (hpin : (s.button b).pinLow = false)
include hx hpin

theorem releaseDue_pressed (hp : (s.button b).press = .pressed p (some h)) : s.releaseDue b = decide (h + 983 ≤ s.cycles) := by
  simp [State.releaseDue, hx, hpin, hp, debounceCycles_eq]

theorem releaseDue_longDone (hp : (s.button b).press = .longDone (some h)) : s.releaseDue b = decide (h + 983 ≤ s.cycles) := by
  simp [State.releaseDue, hx, hpin, hp, debounceCycles_eq]

theorem releaseConfirm_short (hp : (s.button b).press = .pressed p (some h)) (hrun : h + 983 ≤ s.cycles) (hshort : h < p + 49152) :
    s.releaseConfirm b = (s.shortPress b).setPress b .released := by
  have hdue : s.releaseDue b = true := by rw [releaseDue_pressed hx hpin hp, decide_eq_true hrun]
  simp only [State.releaseConfirm, if_pos hdue, hp, shortPressCycles_eq, if_pos hshort]

theorem releaseConfirm_noAction (hp : (s.button b).press = .pressed p (some h)) (hrun : h + 983 ≤ s.cycles)
    (hlong : p + 49152 ≤ h) : s.releaseConfirm b = s.endPress b .noAction .released := by
  have hdue : s.releaseDue b = true := by rw [releaseDue_pressed hx hpin hp, decide_eq_true hrun]
  simp only [State.releaseConfirm, if_pos hdue, hp, shortPressCycles_eq, if_neg (Nat.not_lt.mpr hlong), setPress_setLastAction]

theorem releaseConfirm_longDone (hp : (s.button b).press = .longDone (some h)) (hrun : h + 983 ≤ s.cycles) :
    s.releaseConfirm b = s.setPress b .released := by
  have hdue : s.releaseDue b = true := by rw [releaseDue_longDone hx hpin hp, decide_eq_true hrun]
  simp only [State.releaseConfirm, if_pos hdue, hp]

end

/-! ### The debounce and the long press -/

theorem debounceExpiry_debouncing (hx : s.examined b = true) (hpin : (s.button b).pinLow = true)
    (hp : (s.button b).press = .debouncing p) (hrun : p + 983 ≤ s.cycles) : s.debounceExpiry b = s.setPress b (.pressed p none) := by
  simp [State.debounceExpiry, State.debounceDue, hx, hpin, hp, debounceCycles_eq, hrun]

/-- While the crystal is stopped a long press waits. -/
theorem longPress_stopped (hstop : s.time.crystalRunning = false) : s.longPress b = s := by
  simp [State.longPress, State.longPressDue, hstop]

theorem longPress_pressed (hx : s.examined b = true) (hpin : (s.button b).pinLow = true) (hp : (s.button b).press = .pressed p none)
    (hrun : s.time.crystalRunning = true) (hlong : p + 98304 ≤ s.cycles) :
    s.longPress b = (s.longPressAction b).setPress b (.longDone none) := by
  simp [State.longPress, State.longPressDue, hx, hpin, hp, hrun, longPressCycles_eq, hlong]

/-! ### Edges -/

section
variable (hon : (s.button b).enabled = true) (hup : s.supply.state ≠ .backup)
include hon hup

/-- What each press state makes of an input that goes high, its level taken first. -/
theorem inputHigh_taken (hpin : (s.button b).pinLow = true) : s.inputHigh b =
    match (s.button b).press with
    | .released => s.withInput b false .released
    | .debouncing p => if s.cycles < p + 983 then s.withInput b false .released else s.withInput b false (.pressed p (some s.cycles))
    | .pressed p _ => s.withInput b false (.pressed p (some s.cycles))
    | .longDone _ => s.withInput b false (.longDone (some s.cycles)) := by
  cases hp : (s.button b).press with
  | _ =>
    simp [State.inputHigh, State.withInput, State.examined, State.setPress, button_setButton, hpin, hup, hon, hp, debounceCycles_eq]

section
variable (hpin : (s.button b).pinLow = false)
include hpin

/-- What each press state makes of an input that goes low where no release is due, its level taken first. From P + 3 s on a pressed button
takes the long press that waited for the edge. -/
theorem inputLow_taken (hdue : s.releaseDue b = false) : s.inputLow b =
    match (s.button b).press with
    | .released => s.withInput b true (.debouncing s.cycles)
    | .debouncing p => s.withInput b true (.debouncing p)
    | .pressed p o =>
      if s.time.crystalRunning = true ∧ p + 98304 ≤ s.cycles then
        ((s.withInput b true (.pressed p o)).longPressAction b).setPress b (.longDone none)
      else s.withInput b true (.pressed p none)
    | .longDone _ => s.withInput b true (.longDone none) := by
  cases hp : (s.button b).press with
  | _ =>
    simp [State.inputLow, releaseConfirm_of_not_due hdue, State.withInput, State.examined, State.setPress, button_setButton, hpin, hup,
      hon, hp, longPressCycles_eq]

theorem inputLow_released (hp : (s.button b).press = .released) : s.inputLow b = s.withInput b true (.debouncing s.cycles) := by
  have hdue : s.releaseDue b = false := by simp [State.releaseDue, hp]
  rw [inputLow_taken hon hup hpin hdue, hp]

theorem inputLow_pressed (hp : (s.button b).press = .pressed p (some h)) (hshort : s.cycles < h + 983) : s.inputLow b =
    if s.time.crystalRunning = true ∧ p + 98304 ≤ s.cycles then
      ((s.withInput b true (.pressed p (some h))).longPressAction b).setPress b (.longDone none)
    else s.withInput b true (.pressed p none) := by
  have hdue : s.releaseDue b = false := by
    rw [releaseDue_pressed (examined_of_enabled hon hup) hpin hp, decide_eq_false (Nat.not_le.mpr hshort)]
  rw [inputLow_taken hon hup hpin hdue, hp]

theorem inputLow_longDone (hp : (s.button b).press = .longDone (some h)) (hshort : s.cycles < h + 983) :
    s.inputLow b = s.withInput b true (.longDone none) := by
  have hdue : s.releaseDue b = false := by
    rw [releaseDue_longDone (examined_of_enabled hon hup) hpin hp, decide_eq_false (Nat.not_le.mpr hshort)]
  rw [inputLow_taken hon hup hpin hdue, hp]

end
end
end

/-- A release that leaves the button RELEASED is taken before the edge that finds it confirmed, and the edge opens the next debounce
(R106; log 19). -/
theorem inputLow_after_release {s : State} {b : ButtonNo} {y : Button} (hrelease : s.releaseConfirm b = s.setButton b y)
    (hup : s.supply.state ≠ .backup) (hpin : (s.button b).pinLow = false) (hon : y.enabled = true) (hypin : y.pinLow = false)
    (hp : y.press = .released) :
    s.inputLow b = s.setButton b { y with pinLow := true, sampledLow := true, press := .debouncing s.cycles } := by
  have hy : (s.setButton b y).button b = y := by rw [button_setButton, if_pos rfl]
  have hdue : (s.setButton b y).releaseDue b = false := by simp [State.releaseDue, hy, hp]
  have hfirst : s.inputLow b = (s.setButton b y).inputLow b := by
    simp only [State.inputLow, hy, hpin, hypin, Bool.false_eq_true, if_false, hrelease, releaseConfirm_of_not_due hdue]
  rw [hfirst, inputLow_released (s := s.setButton b y) (by rwa [hy]) hup (by rwa [hy]) (by rwa [hy]), State.withInput, hy]
  exact State.setButton_setButton ..

/-- Settles O40: each edge by the press state that it finds; an edge at the end of a high run finds the button released. -/
theorem pressTiming : Obligations.PressTiming := by
  intro s dt b u x hon hup
  have hlow : exec (.buttonInputLow dt b) s = .next (u.inputLow b) := rfl
  have hhigh : exec (.buttonInputHigh dt b) s = .next (u.inputHigh b) := rfl
  have hdebounce : exec (.buttonDebounceExpiry dt b) s = .next (u.debounceExpiry b) := rfl
  rw [hlow, hhigh, hdebounce]
  have hx : u.examined b = true := examined_of_enabled hon hup
  refine ⟨fun hp hpin => congrArg _ (inputLow_released hon hup hpin hp), fun p hp hpin hshort => congrArg _ ?_,
    fun p h hp hpin => congrArg _ ?_, fun p hp hpin hrun => congrArg _ (debounceExpiry_debouncing hx hpin hp hrun),
    fun p h hp hpin hshort => ⟨fun hwait => congrArg _ ?_, fun hlong hrun => congrArg _ ?_⟩,
    fun p h hp hpin hrun hlong => congrArg _ ?_, fun h hp hpin => congrArg _ ?_⟩
  · rw [inputHigh_taken hon hup hpin, hp]
    exact if_pos hshort
  · rw [inputHigh_taken hon hup hpin, hp]
    rfl
  · rw [inputLow_pressed hon hup hpin hp hshort, if_neg]
    · rfl
    · rintro ⟨hrun, hlong⟩
      obtain hearly | hstop := hwait
      · omega
      · simp [hstop] at hrun
  · rw [inputLow_pressed hon hup hpin hp hshort, if_pos ⟨hrun, hlong⟩]
    rfl
  · exact inputLow_after_release (releaseConfirm_noAction hx hpin hp hrun hlong) hup hpin hon hpin rfl
  · split
    · next hrun =>
      exact inputLow_after_release (y := { x with press := .released }) (releaseConfirm_longDone hx hpin hp hrun) hup hpin hon hpin rfl
    · next hrun => exact inputLow_longDone hon hup hpin hp (Nat.lt_of_not_le hrun)

/-! ## Press actions (R108 to R110) -/

/-- The held channels of a button's set, which a press passes over (R110). -/
def State.heldOf (s : State) (b : ButtonNo) : List Chan := (channelsOf (s.button b).channels).filter s.held

/-- The unheld channels of a button's set, on which a press acts (R108, R109). -/
def State.unheldOf (s : State) (b : ButtonNo) : List Chan := (channelsOf (s.button b).channels).filter fun c => !s.held c

/-- The direction of a short press: OFF if an unheld channel has target ON, else ON (R108). -/
def State.direction (s : State) (b : ButtonNo) : Bool := !((s.unheldOf b).any fun c => (s.chan c).target)

/-- The press that has passed over the held channels of the button's set is reported on each of them (R110). -/
def State.HeldReported (s : State) (b : ButtonNo) (t : State) : Prop :=
  ∀ c ∈ channelsOf (s.button b).channels, s.held c = true → t.Reports .channel c.val 3

/-- A press that found every channel held: BLOCKED noted, the held channels reported, and all else as it stood (R110). -/
structure State.Blocked (s : State) (b : ButtonNo) (press : PressState) (t : State) : Prop where
  button : t.button b = { s.button b with press := press, lastOutcome := .blocked, lastMinute := some s.now }
  held : s.HeldReported b t
  frame : t = { s with buttons := t.buttons, port := { s.port with changes := t.port.changes } }
  others : ∀ d, d ≠ b → t.button d = s.button d

/-- A press that acted on the unheld channels: their claims rewritten by the rule `g`, the action noted, the held channels reported, and
the other channels, the table, the calendar and the store as they stood. -/
structure State.Acted (s : State) (b : ButtonNo) (g : List Claim → List Claim) (o : PressOutcome) (press : PressState) (t : State) :
    Prop where
  button : t.button b = { s.button b with press := press, lastOutcome := o, lastMinute := some s.now }
  claims : ∀ c ∈ s.unheldOf b, (t.chan c).claims = g (s.chan c).claims
  others : ∀ c, c ∉ s.unheldOf b → t.chan c = s.chan c
  held : s.HeldReported b t
  table : t.table = s.table
  calendar : t.calendar = s.calendar
  store : t.store = s.store

section
variable (s : State) (b : ButtonNo)

theorem unheldOf_nodup : (s.unheldOf b).Nodup := (channelsOf_nodup _).filter _

theorem reportHeld_raised (cs : List Chan) : s.Raised (s.reportHeld cs) :=
  forEach_rel State.Raised .refl (fun _ _ _ => .trans) cs _ (fun s c => raise_raised s .channel c.val _) s

theorem reportHeld_onChannels (C : Chan → Prop) (cs : List Chan) : s.OnChannels C (s.reportHeld cs) :=
  forEach_rel (State.OnChannels C) .refl (fun _ _ _ => .trans) cs _ (fun s c => raise_onChannels s .channel c.val _) s

theorem reportHeld_chan (cs : List Chan) (c : Chan) : (s.reportHeld cs).chan c = s.chan c :=
  (reportHeld_onChannels s (fun _ => False) cs).others c id

theorem reportHeld_reports {cs : List Chan} {c : Chan} (hc : c ∈ cs) : (s.reportHeld cs).Reports .channel c.val 3 := by
  induction cs generalizing s with
  | nil => cases hc
  | cons d cs ih =>
    obtain rfl | hc := List.mem_cons.mp hc
    · exact (reportHeld_onChannels _ (fun _ => True) cs).reports _ _ _ (raise_reports s .channel c.val (by decide))
    · exact ih _ hc

theorem reportHeld_heldReported : s.HeldReported b (s.reportHeld (s.heldOf b)) :=
  fun _ hc hheld => reportHeld_reports s (List.mem_filter.mpr ⟨hc, hheld⟩)

theorem endPress_button (o : PressOutcome) (p : PressState) (d : ButtonNo) : (s.endPress b o p).button d =
    if b = d then { s.button b with lastOutcome := o, lastMinute := some s.now, press := p } else s.button d :=
  button_setButton s b d _

/-- A press that reports the held channels and notes BLOCKED is one that found all held. -/
theorem blocked_of_reported (p : PressState) : s.Blocked b p ((s.reportHeld (s.heldOf b)).endPress b .blocked p) := by
  have hheld := reportHeld_heldReported s b
  obtain ⟨⟨x, hx⟩, -⟩ := reportHeld_raised s (s.heldOf b)
  rw [hx] at hheld ⊢
  refine ⟨?_, hheld, rfl, fun d hd => ?_⟩
  · rw [endPress_button, if_pos rfl]; rfl
  · rw [endPress_button, if_neg (Ne.symm hd)]; rfl

/-- A claim rule done on the unheld channels behind the reports is a press that acted. -/
theorem ClaimRule.acted {f : State → Chan → State} {g : CalMinute → List Claim → List Claim} (hf : ClaimRule f g) (o : PressOutcome)
    (p : PressState) : s.Acted b (g s.now) o p
      ((((s.reportHeld (s.heldOf b)).forEach (s.unheldOf b) f).retargetAll (s.unheldOf b)).endPress b o p) := by
  have hreport := reportHeld_onChannels s (· ∈ s.unheldOf b) (s.heldOf b)
  obtain ⟨hpass, -, hclaims⟩ := hf.pass (unheldOf_nodup s b) (s.reportHeld (s.heldOf b))
  have hon := hreport.trans hpass
  refine ⟨?_, fun c hc => ?_, hon.others, fun c hc hheld => ?_, hon.table, hon.calendar, hon.same.store⟩
  · rw [endPress_button, if_pos rfl, hon.now, State.button, hon.same.buttons]; rfl
  · rw [← hreport.now, ← reportHeld_chan s (s.heldOf b) c]
    exact (hclaims c hc).left
  · exact hpass.reports _ _ _ (reportHeld_heldReported s b c hc hheld)

/-! ### The two presses -/

theorem shortPress_blocked (hfree : s.unheldOf b = []) (p : PressState) : s.Blocked b p ((s.shortPress b).setPress b p) := by
  have hpress : s.shortPress b = (s.reportHeld (s.heldOf b)).setLastAction b .blocked := if_pos (List.isEmpty_iff.mpr hfree)
  rw [hpress, setPress_setLastAction]
  exact blocked_of_reported s b p

theorem longPressAction_blocked (hfree : s.unheldOf b = []) (p : PressState) : s.Blocked b p ((s.longPressAction b).setPress b p) := by
  have hpress : s.longPressAction b = (s.reportHeld (s.heldOf b)).setLastAction b .blocked := if_pos (List.isEmpty_iff.mpr hfree)
  rw [hpress, setPress_setLastAction]
  exact blocked_of_reported s b p

/-- A short press places an override of the button in its direction on each unheld channel (R108). -/
theorem shortPress_acted (hfree : s.unheldOf b ≠ []) (p : PressState) : s.Acted b
    (fun l => insertClaim ⟨.override (.button b) (s.button b).ending Config.capMinutes, s.direction b, s.now⟩ (withoutOverride l))
    (if s.direction b then .shortOn else .shortOff) p ((s.shortPress b).setPress b p) := by
  have hrule := putOverride_rule (s.direction b) (.button b) (s.button b).ending
  have hpress : s.shortPress b = (((s.reportHeld (s.heldOf b)).forEach (s.unheldOf b) fun s' c =>
      s'.putOverride c (s.direction b) (.button b) (s.button b).ending).retargetAll (s.unheldOf b)).setLastAction b
        (if s.direction b then .shortOn else .shortOff) := if_neg (mt List.isEmpty_iff.mp hfree)
  rw [hpress, setPress_setLastAction]
  exact hrule.acted s b _ p

/-- A long press removes the override of each unheld channel (R109). -/
theorem longPressAction_acted (hfree : s.unheldOf b ≠ []) (p : PressState) :
    s.Acted b withoutOverride .long p ((s.longPressAction b).setPress b p) := by
  have hpress : s.longPressAction b = (((s.reportHeld (s.heldOf b)).forEach (s.unheldOf b) State.dropOverride).retargetAll
      (s.unheldOf b)).setLastAction b .long := if_neg (mt List.isEmpty_iff.mp hfree)
  rw [hpress, setPress_setLastAction]
  exact dropOverride_rule.acted s b _ p

end

/-- Settles O41: each press by what it does to the unheld channels, the held ones reported. -/
theorem pressActions : Obligations.PressActions := by
  intro s dt b u x free heldReported blocked hon hup
  have hrelease : exec (.buttonReleaseConfirm dt b) s = .next (u.releaseConfirm b) := rfl
  have hlong : exec (.longPress dt b) s = .next (u.longPress b) := rfl
  rw [hrelease, hlong]
  have hx : u.examined b = true := examined_of_enabled hon hup
  refine ⟨fun p h hp hpin hrun hshort hfree => ⟨_, congrArg _ (releaseConfirm_short hx hpin hp hrun hshort), ?_⟩,
    fun p h hp hpin hrun hlate => congrArg _ (releaseConfirm_noAction hx hpin hp hrun hlate),
    fun p h hp hpin hrun hshort hfree => ⟨_, congrArg _ (releaseConfirm_short hx hpin hp hrun hshort), ?_⟩,
    fun h hp hpin hrun => congrArg _ (releaseConfirm_longDone hx hpin hp hrun),
    fun hstop => congrArg _ (longPress_stopped hstop),
    fun p hp hpin hrun hdue hfree => ⟨_, congrArg _ (longPress_pressed hx hpin hp hrun hdue), ?_⟩,
    fun p hp hpin hrun hdue hfree => ⟨_, congrArg _ (longPress_pressed hx hpin hp hrun hdue), ?_⟩⟩
  · obtain ⟨hbutton, hclaims, hothers, hheld, htable, hcalendar, hstore⟩ := shortPress_acted u b hfree .released
    exact ⟨hbutton, hclaims, hothers, hheld, htable, hcalendar, hstore⟩
  · obtain ⟨hbutton, hheld, hframe, hothers⟩ := shortPress_blocked u b hfree .released
    exact ⟨hbutton, hheld, hframe, hothers⟩
  · obtain ⟨hbutton, hheld, hframe, hothers⟩ := longPressAction_blocked u b hfree (.longDone none)
    exact ⟨hbutton, hheld, hframe, hothers⟩
  · obtain ⟨hbutton, hclaims, hothers, hheld, htable, hcalendar, hstore⟩ := longPressAction_acted u b hfree (.longDone none)
    exact ⟨hbutton, hclaims, hothers, hheld, htable, hcalendar, hstore⟩

end Sys2Proof.Machine
end

/-! A relation between a state and a later one that the port's own work cannot break: it holds over every transaction, every request and
every step once it holds over each command and each event. -/

section
namespace Sys2Proof.Machine

/-! ## The port and a step (R168 to R178) -/

/-- A reflexive and transitive relation between a state and a later one that no change at the port breaks, and that every command of the
catalogue meets. -/
structure PortRelation (R : State → State → Prop) : Prop where
  refl : ∀ s, R s s
  trans : ∀ {s t u}, R s t → R t u → R s u
  port : ∀ s x, R s (s.setPort x)
  command : ∀ cmd p s, Answers (R s) (runCommand cmd p s)
  program : ∀ {p tag s t}, cmdProgramStore p tag s = .ok t → R s t

section
variable {R : State → State → Prop} (hR : PortRelation R)
include hR

theorem PortRelation.execute (s : State) (rq : Request) : R s (s.execute rq) := by
  unfold State.execute
  split
  · split
    · next hc => exact hR.program hc
    · exact hR.port s _
  · unfold State.answer
    split
    · next hc => exact hR.trans (hR.command _ _ _ _ _ hc) (hR.port _ _)
    · exact hR.port s _

theorem PortRelation.takeRequests (n : Nat) (s : State) : R s (s.takeRequests n) := by
  induction n generalizing s with
  | zero => exact hR.refl s
  | succ n ih =>
    unfold State.takeRequests
    split
    · exact hR.refl s
    · split
      · exact hR.trans (hR.port s _) (hR.trans (hR.execute _ _) (ih _))
      · exact hR.refl s

theorem PortRelation.executor (s : State) : R s s.executor := hR.takeRequests _ s

/-- The executor's test behind a change at the port alone. -/
theorem PortRelation.setPort_executor (s : State) (x : HostPort) : R s (s.setPort x).executor :=
  hR.trans (hR.port s x) (hR.executor _)

theorem PortRelation.submit (s : State) (cmd tag : Byte) (p : List Byte) : R s (s.submit cmd tag p) := by
  unfold State.submit
  split
  · split
    · exact hR.setPort_executor s _
    · exact hR.port s _
  · exact hR.refl s

theorem PortRelation.startTransaction (s : State) : R s s.startTransaction := by
  unfold State.startTransaction
  split
  · exact hR.refl s
  · exact hR.port s _

theorem PortRelation.statusShifted (s : State) : R s s.statusShifted := by
  unfold State.statusShifted
  split
  · split
    · exact hR.port s _
    · exact hR.refl s
  · exact hR.refl s

theorem PortRelation.latchReply (s : State) : R s s.latchReply := by
  unfold State.latchReply
  split
  · exact hR.port s _
  · exact hR.refl s

theorem PortRelation.endReplyRead (s : State) (x : Transaction) (n : Nat) : R s (s.endReplyRead x n) := by
  unfold State.endReplyRead
  split
  · split
    · exact hR.setPort_executor s _
    · exact hR.refl s
  · exact hR.refl s

theorem PortRelation.judgeFrame (s : State) (bytes : List Byte) (n : Nat) : R s (s.judgeFrame bytes n) := by
  unfold State.judgeFrame
  split
  · split
    · exact hR.setPort_executor s _
    · exact hR.port s _
  · exact hR.port s _

theorem PortRelation.endRequest (s : State) (bytes : List Byte) (n : Nat) : R s (s.endRequest bytes n) := by
  unfold State.endRequest
  split
  · exact hR.port s _
  · split
    · exact hR.port s _
    · split
      · exact hR.trans (hR.port s _) (hR.endReplyRead _ _ _)
      · exact hR.trans (hR.port s _) (hR.judgeFrame _ _ _)

theorem PortRelation.endRead (s : State) (n : Nat) : R s (s.endRead n) := by
  unfold State.endRead
  split
  · exact hR.port s _
  · exact hR.trans (hR.port s _) (hR.endReplyRead _ _ _)

theorem PortRelation.portRelease (s : State) : R s s.portRelease := by
  unfold State.portRelease
  split
  · exact hR.setPort_executor s _
  · exact hR.refl s

/-- A relation that the pending commands, the passing of time and each row meet is one that every step meets. -/
theorem PortRelation.step (hpending : ∀ s x, R s (s.setPending x)) (helapse : ∀ s dt, R s (s.elapse dt))
    (hexec : ∀ {x : Instr} {s t}, exec x s = .next t → R s t) {s t : State} (hs : step s = .next t) : R s t := by
  unfold Machine.step at hs
  split at hs
  · exact hR.trans (hpending s _) (hexec hs)
  · split at hs
    · exact hexec hs
    · cases hs; exact helapse s 1

end

end Sys2Proof.Machine
end

/-! Real calendar times, the Light Monitor's items in their ranges, and the changes that keep both (R112 to R116, R122). -/

section
namespace Sys2Proof.Machine

/-! ## Real dates and times (R122) -/

theorem monthLength_pos (y m : Nat) : 1 ≤ monthLength y m := by
  unfold monthLength
  split_ifs <;> omega

theorem date_isReal_iff {d : Date} : d.isReal = true ↔
    (2000 ≤ d.year ∧ d.year ≤ 2199) ∧ (1 ≤ d.month ∧ d.month ≤ 12) ∧ 1 ≤ d.day ∧ d.day ≤ monthLength d.year d.month := by
  simp only [Date.isReal, Bool.and_eq_true, decide_eq_true_eq, and_assoc]

theorem timeOfDay_isReal_iff {t : TimeOfDay} : t.isReal = true ↔ t.hour ≤ 23 ∧ t.minute ≤ 59 := by
  simp only [TimeOfDay.isReal, Bool.and_eq_true, decide_eq_true_eq]

theorem calTime_isReal_iff {t : CalTime} : t.isReal = true ↔ t.date.isReal = true ∧ t.tod.isReal = true ∧ t.second ≤ 59 := by
  simp only [CalTime.isReal, Bool.and_eq_true, decide_eq_true_eq, and_assoc]

/-- The day after the last of the range is its first. -/
theorem date_next_isReal {d : Date} (h : d.isReal = true) : d.next.isReal = true := by
  obtain ⟨hy, hm, hd⟩ := date_isReal_iff.mp h
  unfold Date.next
  split
  · next hday => exact date_isReal_iff.mpr ⟨hy, hm, Nat.succ_pos _, hday⟩
  · split
    · next hmonth => exact date_isReal_iff.mpr ⟨hy, ⟨Nat.succ_pos _, hmonth⟩, Nat.le_refl 1, monthLength_pos _ _⟩
    · split
      · next hyear => exact date_isReal_iff.mpr ⟨⟨Nat.le_succ_of_le hy.left, hyear⟩, by simp, Nat.le_refl 1, monthLength_pos _ _⟩
      · decide

theorem nextSecond_isReal {t : CalTime} (h : t.isReal = true) : t.nextSecond.isReal = true := by
  obtain ⟨hd, htod, hs⟩ := calTime_isReal_iff.mp h
  obtain ⟨hh, hm⟩ := timeOfDay_isReal_iff.mp htod
  unfold CalTime.nextSecond
  split
  · next hsecond => exact calTime_isReal_iff.mpr ⟨hd, htod, hsecond⟩
  · split
    · next hminute => exact calTime_isReal_iff.mpr ⟨hd, timeOfDay_isReal_iff.mpr ⟨hh, hminute⟩, Nat.zero_le _⟩
    · split
      · next hhour => exact calTime_isReal_iff.mpr ⟨hd, timeOfDay_isReal_iff.mpr ⟨hhour, Nat.zero_le _⟩, Nat.zero_le _⟩
      · exact calTime_isReal_iff.mpr ⟨date_next_isReal hd, rfl, Nat.zero_le _⟩

theorem readTime_isReal {y m d h mi sec : Byte} {t : CalTime} (ht : readTime y m d h mi sec = some t) : t.isReal = true := by
  unfold readTime readDate readTod at ht
  split at ht
  · next date tod hdate htod =>
    simp only [Option.ite_none_right_eq_some, Option.some.injEq] at ht hdate htod
    obtain ⟨hsec, rfl⟩ := ht
    obtain ⟨hdate, rfl⟩ := hdate
    obtain ⟨htod, rfl⟩ := htod
    exact calTime_isReal_iff.mpr ⟨hdate, htod, hsec⟩
  · cases ht

/-! ## The Light Monitor's ranges (R112 to R116) -/

theorem cold_lightOk (n : Nat) : (LightMonitor.cold n).Ok := { reset_lightOk with }

section
variable {l : LightMonitor} (h : l.Ok)
include h

theorem restart_ok (st : LightState) : (l.restart st).Ok :=
  { h with confirm := Nat.zero_le _, faults := Nat.zero_le _ }

/-- A run short of C fits the confirmation counter. -/
theorem confirm_of_short {n : Nat} (hn : ¬ l.confirmCount ≤ n) : n ≤ 255 := by
  obtain ⟨-, hmax⟩ := h.count
  omega

theorem run_ok (n : Nat) (running settled : LightState) (ev : LightEvent) : (l.run n running settled ev).1.Ok := by
  unfold LightMonitor.run
  split
  · exact { h with confirm := Nat.zero_le _ }
  · next hn => exact { h with confirm := confirm_of_short h hn }

theorem resolve_ok (n : Nat) (side : LightSide) (settled : LightState) : (l.resolve n side settled).1.Ok := by
  unfold LightMonitor.resolve
  split
  · exact { h with confirm := Nat.zero_le _ }
  · next hn => exact { h with confirm := confirm_of_short h hn }

theorem classify_ok (c : LightClass) : (l.classify c).1.Ok := by
  have hback {st : LightState} : ({ l with state := st, confirm := 0 } : LightMonitor).Ok := { h with confirm := Nat.zero_le _ }
  unfold LightMonitor.classify
  split
  · exact run_ok h _ _ _ _
  · exact h
  · exact run_ok h _ _ _ _
  · exact h
  · exact hback
  · exact run_ok h _ _ _ _
  · exact h
  · exact run_ok h _ _ _ _
  · exact h
  · exact hback
  · exact resolve_ok h _ _ _
  · exact resolve_ok h _ _ _
  · exact { h with confirm := Nat.zero_le _ }
  · exact h

/-- The count that would reach 30 restarts the monitor (R116). -/
theorem faultTest_ok (v : Nat) : (l.faultTest v).1.Ok := by
  have hclear : ({ l with faults := 0 } : LightMonitor).Ok := { h with faults := Nat.zero_le _ }
  have hcount (hn : ¬ 30 ≤ l.faults + 1) : ({ l with faults := l.faults + 1 } : LightMonitor).Ok := 
    { h with faults := show l.faults + 1 ≤ 29 by omega }
  unfold LightMonitor.faultTest
  split
  · split
    · exact hclear
    · split
      · exact restart_ok h _
      · next hn => exact hcount hn
  · split
    · split
      · exact restart_ok h _
      · next hn => exact hcount hn
    · exact hclear

theorem sample_ok {v : Nat} (hv : v ≤ 1023) : (l.sample v).1.Ok := by
  have hkept : ({ l with lastSample := some v, nextSample := l.nextSample + Config.second } : LightMonitor).Ok :=
    { h with sample := fun w hw => by cases hw; exact hv }
  have htest := faultTest_ok hkept v
  unfold LightMonitor.sample
  dsimp only
  split
  · next heq => rw [heq] at htest; exact classify_ok htest _
  · next heq => rw [heq] at htest; exact htest

end

/-! ## Changes that keep the ranges -/

/-- The change from one state to another keeps the calendar time in the calendar range, and the Light Monitor's items in theirs. -/
structure State.KeepsRanges (s t : State) : Prop where
  time : s.time.time.isReal = true → t.time.time.isReal = true
  light : s.light.Ok → t.light.Ok

section
variable {s t u : State}

theorem State.KeepsRanges.of_items (ht : t.time.time = s.time.time) (hl : t.light = s.light) : s.KeepsRanges t :=
  ⟨fun h => by rwa [ht], fun h => by rwa [hl]⟩

theorem State.KeepsRanges.of_same (h : s.SameElsewhere t) : s.KeepsRanges t := .of_items (by rw [h.time]) h.light

theorem State.KeepsRanges.of_light (ht : t.time.time = s.time.time) (hl : s.light.Ok → t.light.Ok) : s.KeepsRanges t :=
  ⟨fun h => by rwa [ht], hl⟩

theorem State.KeepsRanges.of_time (ht : s.time.time.isReal = true → t.time.time.isReal = true) (hl : t.light = s.light) :
    s.KeepsRanges t := ⟨ht, fun h => by rwa [hl]⟩

theorem State.KeepsRanges.of_cold (ht : t.time.time = ⟨Date.first, ⟨0, 0⟩, 0⟩) {n : Nat} (hl : t.light = LightMonitor.cold n) :
    s.KeepsRanges t := ⟨fun _ => by rw [ht]; decide, fun _ => hl ▸ cold_lightOk n⟩

theorem State.KeepsRanges.refl (s : State) : s.KeepsRanges s := ⟨id, id⟩

theorem State.KeepsRanges.trans (h : s.KeepsRanges t) (k : t.KeepsRanges u) : s.KeepsRanges u :=
  ⟨k.time ∘ h.time, k.light ∘ h.light⟩

/-- A change behind one that leaves the calendar time and the light as they stand. -/
theorem State.KeepsRanges.behind (h : t.KeepsRanges u) (ht : t.time.time = s.time.time) (hl : t.light = s.light) : s.KeepsRanges u :=
  (State.KeepsRanges.of_items ht hl).trans h

end

theorem forEach_ranges {α : Type} {f : State → α → State} (hf : ∀ (s : State) (a : α), s.KeepsRanges (f s a)) (l : List α)
    (s : State) : s.KeepsRanges (s.forEach l f) := forEach_rel State.KeepsRanges .refl (fun _ _ _ => .trans) l f hf s

/-- A claim operation on some channels, with the targets computed behind it. -/
theorem pass_same {f : State → Chan → State} (hf : ∀ (s : State) (c : Chan), s.SameElsewhere (f s c)) (cs : List Chan) (s : State) :
    s.SameElsewhere ((s.forEach cs f).retargetAll cs) := (forEach_same cs f hf s).trans (retargetAll_same _ cs)

theorem elapse_ranges (s : State) (dt : Nat) : s.KeepsRanges (s.elapse dt) := by
  unfold State.elapse
  dsimp only
  repeat' split
  all_goals exact .of_items rfl rfl

/-! ### The Switching Engine -/

section
variable (s : State)

theorem scanQueue_ranges (cs : List Chan) (room : Nat) : s.KeepsRanges (scanQueue s cs room).1 := by
  induction cs generalizing s room with
  | nil => exact .refl s
  | cons c cs ih =>
    cases room with
    | zero => exact .refl s
    | succ room =>
      unfold scanQueue
      split
      · exact (ih _ _).behind rfl rfl
      · exact ih _ _

theorem switchingSlot_ranges : s.KeepsRanges s.switchingSlot := (scanQueue_ranges s _ _).trans (.of_items rfl rfl)

theorem crystalTick_ranges : s.KeepsRanges s.crystalTick := by
  unfold State.crystalTick
  dsimp only
  split
  · split
    · exact .of_items rfl rfl
    · exact (switchingSlot_ranges _).behind rfl rfl
  · exact .refl s

theorem coilAction_ranges (c : Chan) : s.KeepsRanges (s.coilAction c) := by
  unfold State.coilAction
  split <;> exact .of_items rfl rfl

theorem pulseStart_ranges (c : Chan) : s.KeepsRanges (s.pulseStart c) := by
  unfold State.pulseStart
  split <;> exact .of_items rfl rfl

theorem complete_ranges (c : Chan) : s.KeepsRanges (s.complete c) := by
  unfold State.complete
  dsimp only
  repeat' split
  all_goals exact .of_items rfl rfl

theorem reconcileAll_ranges : s.KeepsRanges s.reconcileAll :=
  forEach_ranges (fun s c => .of_same (reconcile_onChannels s c).same) _ s

theorem enterRun_ranges : s.KeepsRanges s.enterRun := (reconcileAll_ranges _).behind rfl rfl

/-! ### The Time Base and the Line Monitor -/

theorem makeDoubtful_ranges : s.KeepsRanges s.makeDoubtful := by
  unfold State.makeDoubtful
  split <;> exact .of_items rfl rfl

theorem judgeSource_ranges : s.KeepsRanges s.judgeSource := by
  obtain ⟨x, hx, -, ⟨⟨y, hy⟩, -⟩⟩ := judgeSource_raised s
  rw [hy]
  exact .of_items hx rfl

/-- The seconds advance within the calendar range, a wrap included (R122). -/
theorem secondBoundary_ranges : s.KeepsRanges s.secondBoundary := by
  unfold State.secondBoundary
  dsimp only
  split
  · refine .of_time nextSecond_isReal ?_
    split
    · unfold State.makeDoubtful
      split <;> rfl
    · rfl
  · exact .refl s

theorem stopCrystal_ranges : s.KeepsRanges s.stopCrystal := by
  unfold State.stopCrystal
  dsimp only
  split
  · exact .refl s
  · split
    · exact (makeDoubtful_ranges _).behind rfl rfl
    · exact .of_items rfl rfl

theorem runCrystal_ranges : s.KeepsRanges s.runCrystal := by
  unfold State.runCrystal
  split
  · exact .refl s
  · exact .of_light rfl fun h => { h with }

theorem updateLine_ranges (l : LineMonitor) : s.KeepsRanges (s.updateLine l) := by
  unfold State.updateLine
  dsimp only
  split <;> exact .of_items rfl rfl

theorem loseLine_ranges : s.KeepsRanges s.loseLine := (updateLine_ranges s _).trans (judgeSource_ranges _)

theorem risingCrossing_ranges : s.KeepsRanges s.risingCrossing := by
  unfold State.risingCrossing
  split
  · refine ((updateLine_ranges s (s.line.rise s.cycles s.time.crystalRunning)).trans (judgeSource_ranges _)).trans ?_
    generalize (s.updateLine (s.line.rise s.cycles s.time.crystalRunning)).judgeSource = u
    dsimp only
    split
    · split
      · exact (switchingSlot_ranges _).behind rfl rfl
      · exact switchingSlot_ranges u
    · exact .refl u
  · exact .refl s

theorem fallingCrossing_ranges : s.KeepsRanges s.fallingCrossing := by
  unfold State.fallingCrossing
  dsimp only
  split
  · split
    · exact (switchingSlot_ranges _).behind rfl rfl
    · exact .of_items rfl rfl
  · exact .refl s

theorem absenceTimeout_ranges : s.KeepsRanges s.absenceTimeout := by
  unfold State.absenceTimeout
  split
  · exact loseLine_ranges s
  · exact .refl s

theorem takeMinuteTick_ranges : s.KeepsRanges s.takeMinuteTick := by
  unfold State.takeMinuteTick
  split
  · exact (State.KeepsRanges.of_same (minuteEvaluation_same _)).behind rfl rfl
  · exact .refl s

theorem takeClaimTick_ranges : s.KeepsRanges s.takeClaimTick := by
  unfold State.takeClaimTick
  split
  · exact (State.KeepsRanges.of_same (countdownOverrides_same _)).behind rfl rfl
  · exact .refl s

/-! ### The Light Monitor -/

theorem updateLight_ranges {l : LightMonitor} (h : s.light.Ok → l.Ok) : s.KeepsRanges (s.updateLight l) := by
  unfold State.updateLight
  dsimp only
  split <;> exact .of_light rfl h

theorem darkenLight_ranges : s.KeepsRanges s.darkenLight :=
  updateLight_ranges s fun h => { restart_ok h .unknown with sample := fun _ hv => by cases hv }

theorem luxSample_ranges {v : Nat} (hv : v ≤ 1023) : s.KeepsRanges (s.luxSample v) := by
  have hsample (h : s.light.Ok) : (s.light.sample v).1.Ok := sample_ok h hv
  unfold State.luxSample
  split
  · split
    · next heq => rw [heq] at hsample; exact updateLight_ranges s hsample
    · next l ev heq =>
      rw [heq] at hsample
      refine .trans (updateLight_ranges s fun h => ?_) (.of_same (lightEvent_same _ ev))
      exact { hsample h with }
  · exact .refl s

/-! ### The Button Unit -/

theorem setPress_ranges (b : ButtonNo) (p : PressState) : s.KeepsRanges (s.setPress b p) := .of_items rfl rfl

theorem setLastAction_ranges (b : ButtonNo) (o : PressOutcome) : s.KeepsRanges (s.setLastAction b o) := .of_items rfl rfl

theorem reportHeld_ranges (cs : List Chan) : s.KeepsRanges (s.reportHeld cs) :=
  .of_same (reportHeld_onChannels s (fun _ => False) cs).same

theorem shortPress_ranges (b : ButtonNo) : s.KeepsRanges (s.shortPress b) := by
  unfold State.shortPress
  dsimp only
  split
  · exact (reportHeld_ranges s _).trans (setLastAction_ranges _ b _)
  · exact ((reportHeld_ranges s _).trans (.of_same (pass_same (fun s c => putOverride_same s c _ _ _) _ _))).trans
      (setLastAction_ranges _ b _)

theorem longPressAction_ranges (b : ButtonNo) : s.KeepsRanges (s.longPressAction b) := by
  unfold State.longPressAction
  dsimp only
  split
  · exact (reportHeld_ranges s _).trans (setLastAction_ranges _ b _)
  · exact ((reportHeld_ranges s _).trans (.of_same (pass_same dropOverride_same _ _))).trans (setLastAction_ranges _ b _)

theorem releaseConfirm_ranges (b : ButtonNo) : s.KeepsRanges (s.releaseConfirm b) := by
  unfold State.releaseConfirm
  split
  · split
    · split
      · exact (shortPress_ranges s b).trans (setPress_ranges _ b _)
      · exact .of_items rfl rfl
    · exact setPress_ranges s b _
  · exact .refl s

theorem longPress_ranges (b : ButtonNo) : s.KeepsRanges (s.longPress b) := by
  unfold State.longPress
  split
  · exact (longPressAction_ranges s b).trans (setPress_ranges _ b _)
  · exact .refl s

theorem inputLow_ranges (b : ButtonNo) : s.KeepsRanges (s.inputLow b) := by
  unfold State.inputLow
  dsimp only
  split
  · exact .refl s
  · refine (releaseConfirm_ranges s b).trans ?_
    generalize s.releaseConfirm b = u
    have hlevel : u.KeepsRanges (let v := u.setButton b { u.button b with pinLow := true }
        if v.supply.state = .backup then v else v.setButton b { v.button b with sampledLow := true }) := by
      dsimp only
      split <;> exact .of_items rfl rfl
    refine hlevel.trans ?_
    dsimp only
    generalize (if (u.setButton b _).supply.state = .backup then _ else _) = v
    split
    · split
      · exact setPress_ranges v b _
      · exact setPress_ranges v b _
      · split
        · exact (longPressAction_ranges v b).trans (setPress_ranges _ b _)
        · exact setPress_ranges v b _
      · exact setPress_ranges v b _
    · exact .refl v

theorem inputHigh_ranges (b : ButtonNo) : s.KeepsRanges (s.inputHigh b) := by
  unfold State.inputHigh
  dsimp only
  repeat' split
  all_goals exact .of_items rfl rfl

theorem debounceExpiry_ranges (b : ButtonNo) : s.KeepsRanges (s.debounceExpiry b) := by
  unfold State.debounceExpiry
  repeat' split
  all_goals exact .of_items rfl rfl

/-! ### The store and the supply -/

theorem programByteDone_ranges (hR : PortRelation State.KeepsRanges) : s.KeepsRanges s.programByteDone := by
  unfold State.programByteDone
  split
  · exact .refl s
  · dsimp only
    split
    · exact (hR.executor _).behind rfl rfl
    · split
      · exact (hR.executor _).behind rfl rfl
      · exact .of_items rfl rfl

theorem portReset_ranges : s.KeepsRanges s.portReset := by
  unfold State.portReset
  split <;> exact .of_items rfl rfl

theorem abandonAll_ranges : s.KeepsRanges s.abandonAll := by
  obtain ⟨x, ⟨y, hy⟩, -⟩ := abandonAll_raised s
  rw [hy]
  exact .of_items rfl rfl

theorem enterBackup_ranges : s.KeepsRanges s.enterBackup := by
  by_cases hup : s.supply.state = .backup
  · rw [State.enterBackup, if_pos hup]
    exact .refl s
  · obtain ⟨array, n, hlost⟩ := supplyLost_eq s
    have hsupply : s.KeepsRanges s.supplyLost := by rw [hlost]; exact .of_items rfl rfl
    rw [enterBackup_eq hup]
    exact (((hsupply.trans (abandonAll_ranges _)).trans (loseLine_ranges _)).trans (darkenLight_ranges _)).trans
      (forEach_ranges (fun s b => setPress_ranges s b _) allButtons _)

theorem countdownSecond_ranges : s.KeepsRanges s.countdownSecond := by
  unfold State.countdownSecond
  split <;> exact .of_items rfl rfl

theorem countdownExpiry_ranges : s.KeepsRanges s.countdownExpiry := by
  unfold State.countdownExpiry
  split
  · exact enterRun_ranges s
  · exact .refl s

theorem retainedLoss_ranges : s.KeepsRanges s.retainedLoss := by
  unfold State.retainedLoss
  split <;> exact .of_items rfl rfl

theorem setLoad_ranges (l : LoadRecord) : s.KeepsRanges (s.setLoad l) := .of_items rfl rfl

theorem endLoad_ranges (l : LoadRecord) : s.KeepsRanges (s.endLoad l) := .of_items rfl rfl

theorem retired_ranges (src : LoadSource) : s.KeepsRanges (s.retired src) :=
  ((setLoad_ranges s _).trans (.of_same (retirePhase_same _))).trans (setLoad_ranges _ _)

theorem startLoad_ranges (src : LoadSource) : s.KeepsRanges (s.startLoad src) := by
  cases ht : headerTests s.store.array with
  | some r => rw [startLoad_of_bad src ht]; exact endLoad_ranges s _
  | none =>
    rw [startLoad_of_good src ht]
    split
    · exact (retired_ranges s src).trans (endLoad_ranges _ _)
    · exact retired_ranges s src

theorem setNextSample_ranges (n : Nat) : s.KeepsRanges (s.setLight { s.light with nextSample := n }) :=
  .of_light rfl fun h => { h with }

theorem sampleButton_ranges (b : ButtonNo) : s.KeepsRanges (s.sampleButton b) := .of_items rfl rfl

theorem restored_ranges : s.KeepsRanges s.restored := by
  have hstart : s.KeepsRanges (if s.supply.signatureValid then s.warmRestore else s.coldStart) := by
    split
    · exact .of_items rfl rfl
    · exact .of_cold rfl rfl
  unfold State.restored
  dsimp only
  generalize (if s.supply.signatureValid then s.warmRestore else s.coldStart) = u at hstart ⊢
  refine (hstart.trans ?_).trans (forEach_ranges sampleButton_ranges allButtons _)
  exact (setNextSample_ranges _ _).behind rfl rfl

theorem enterRestoring_ranges : s.KeepsRanges s.enterRestoring := by
  have hload : s.KeepsRanges s.restoredLoading := by
    unfold State.restoredLoading
    split
    · exact (restored_ranges s).trans (startLoad_ranges _ .restore)
    · exact restored_ranges s
  rw [enterRestoring_eq]
  split
  · exact hload.trans (enterRun_ranges _)
  · exact hload

theorem powerUpValues_ranges (b : Bool) : s.KeepsRanges (s.powerUpValues b) := .of_cold rfl rfl

theorem mainsReturn_ranges : s.KeepsRanges s.mainsReturn := by
  unfold State.mainsReturn
  split
  · split
    · exact (powerUpValues_ranges s _).trans (enterRestoring_ranges _)
    · exact enterRestoring_ranges s
  · exact .refl s

theorem powerUp_ranges (a b : Bool) : s.KeepsRanges (s.powerUp a b) := by
  unfold State.powerUp
  dsimp only
  split
  · split
    · exact (powerUpValues_ranges s b).trans (enterRestoring_ranges _)
    · exact powerUpValues_ranges s b
  · exact .refl s

/-! ## Items of a load and the commands that share them -/

section
variable {s} {t : State} {p : List Byte}

theorem configureItem_ranges {c : Chan} (h : configureItem p s = .ok (c, t)) : s.KeepsRanges t := by
  unfold configureItem at h
  repeat' split at h
  all_goals cases h
  exact .of_same ((setChan_same s _ _).trans (applyConfig_onChannels s _ _).same)

theorem entryItem_ranges (h : entryItem p s = .ok t) : s.KeepsRanges t := by
  unfold entryItem at h
  repeat' split at h
  all_goals cases h
  next hm => exact .of_same (makeEntry_same hm)

/-- Three limits that are taken lie in their ranges (R118). -/
theorem lightLimitsItem_ranges (h : lightLimitsItem p s = .ok t) : s.KeepsRanges t := by
  unfold lightLimitsItem at h
  dsimp only at h
  split at h
  · next e1 e0 l1 l0 c =>
    split at h
    · next hok =>
      cases h
      simp only [Bool.and_eq_true, decide_eq_true_eq, bne_iff_ne] at hok
      obtain ⟨⟨⟨-, hl⟩, hc⟩, hel⟩ := hok
      have hpos : 1 ≤ c.toNat := Nat.one_le_iff_ne_zero.mpr fun he => hc (BitVec.eq_of_toNat_eq he)
      exact .of_light rfl fun hs => { hs with limits := ⟨hel, hl⟩, count := ⟨hpos, Nat.le_of_lt_succ c.isLt⟩ }
    · cases h
  · cases h

theorem buttonItem_ranges {b : ButtonNo} (h : buttonItem p s = .ok (b, t)) : s.KeepsRanges t := by
  unfold buttonItem at h
  repeat' split at h
  all_goals cases h
  exact .of_items rfl rfl

theorem timeSourceItem_ranges (h : timeSourceItem p s = .ok t) : s.KeepsRanges t := by
  unfold timeSourceItem at h
  repeat' split at h
  all_goals cases h
  all_goals exact (judgeSource_ranges _).behind rfl rfl

theorem lineConfirmItem_ranges (h : lineConfirmItem p s = .ok t) : s.KeepsRanges t := by
  unfold lineConfirmItem at h
  repeat' split at h
  all_goals cases h
  exact .of_items rfl rfl

theorem supplyItem_ranges (h : supplyItem p s = .ok t) : s.KeepsRanges t := by
  unfold supplyItem at h
  repeat' split at h
  all_goals cases h
  exact .of_items rfl rfl

theorem applyItem_ranges {type : Byte} (h : applyItem type p s = .ok t) : s.KeepsRanges t := by
  unfold applyItem at h
  split at h
  · obtain ⟨x, hx, rfl⟩ := ok_of_map h
    exact configureItem_ranges hx
  · exact entryItem_ranges h
  · exact .of_same (addExceptionItem_same h)
  · exact lightLimitsItem_ranges h
  · obtain ⟨x, hx, rfl⟩ := ok_of_map h
    exact buttonItem_ranges hx
  · exact lineConfirmItem_ranges h
  · exact supplyItem_ranges h
  · exact timeSourceItem_ranges h
  · cases h

end

theorem takeItem_ranges (n : NextItem) : s.KeepsRanges (s.takeItem n) := by
  unfold State.takeItem
  dsimp only
  split
  · next hv => exact (applyItem_ranges hv).trans (setLoad_ranges _ _)
  · exact setLoad_ranges s _

theorem loadStep_ranges : s.KeepsRanges s.loadStep := by
  cases hd : s.loadStepDue with
  | none => rw [loadStep_of_none hd]; exact .refl s
  | some n =>
    rw [loadStep_of_due hd]
    split
    · exact (takeItem_ranges s n).trans (endLoad_ranges _ _)
    · exact takeItem_ranges s n

/-! ## Commands -/

variable (p : List Byte)

theorem cmdConfigureChannel_ranges : Answers s.KeepsRanges (cmdConfigureChannel p s) := by
  refine answers_check ?_
  split
  · exact answers_error
  · next hi => exact answers_ok (configureItem_ranges hi)

theorem cmdSetStagger_ranges : Answers s.KeepsRanges (cmdSetStagger p s) := by
  unfold cmdSetStagger
  split
  · exact answers_check (answers_ok (.of_items rfl rfl))
  · exact answers_error

theorem cmdConfigureButton_ranges : Answers s.KeepsRanges (cmdConfigureButton p s) := by
  refine answers_check ?_
  split
  · exact answers_error
  · next hi => exact answers_ok (buttonItem_ranges hi)

theorem cmdSetLightLimits_ranges : Answers s.KeepsRanges (cmdSetLightLimits p s) := by
  refine answers_check ?_
  split
  · exact answers_error
  · next hi => exact answers_ok (lightLimitsItem_ranges hi)

/-- A time that SET_TIME takes is one of the calendar range (R129). -/
theorem cmdSetTime_ranges : Answers s.KeepsRanges (cmdSetTime p s) := by
  unfold cmdSetTime
  split
  · split
    · exact answers_error
    · next t ht =>
      refine answers_check (answers_ok ?_)
      rw [takeTime_eq]
      refine State.KeepsRanges.trans (t := s.dated t) (.of_time (fun _ => ?_) ?_) (.of_same (setTimeSchedule_same _))
      · rw [dated_time, settime_time]
        exact readTime_isReal ht
      · rw [State.dated, (calendarDayWork_same _).light]
        obtain h | h := settime_cases s t <;> rw [h] <;> rfl
  · exact answers_error

theorem cmdSetTimeSource_ranges : Answers s.KeepsRanges (cmdSetTimeSource p s) := by
  unfold cmdSetTimeSource
  split
  · exact answers_error
  · next hi => exact answers_ok (timeSourceItem_ranges hi)

theorem cmdSetLineConfirm_ranges : Answers s.KeepsRanges (cmdSetLineConfirm p s) := by
  unfold cmdSetLineConfirm
  split
  · exact answers_error
  · next hi => exact answers_ok (lineConfirmItem_ranges hi)

theorem cmdSetSupply_ranges : Answers s.KeepsRanges (cmdSetSupply p s) := by
  unfold cmdSetSupply
  split
  · exact answers_ok (.of_items rfl rfl)
  · exact answers_error

theorem cmdReadChanges_ranges : Answers s.KeepsRanges (cmdReadChanges p s) := by
  unfold cmdReadChanges
  split
  · exact answers_check (answers_ok (.of_items rfl rfl))
  · exact answers_error

theorem cmdSetNoticeMask_ranges : Answers s.KeepsRanges (cmdSetNoticeMask p s) := by
  unfold cmdSetNoticeMask
  split
  · exact answers_check (answers_ok (.of_items rfl rfl))
  · exact answers_error

theorem cmdLoadDefaults_ranges : Answers s.KeepsRanges (cmdLoadDefaults p s) :=
  answers_check (answers_check (answers_ok (startLoad_ranges s .host)))

end

theorem runCommand_ranges (cmd : Byte) (p : List Byte) (s : State) : Answers s.KeepsRanges (runCommand cmd p s) := by
  have hread {a : Answer} (ha : Answers (· = s) a) : Answers s.KeepsRanges a := answers_mono ha fun t h => h ▸ .refl t
  have hsame {a : Answer} (ha : ∀ {t q}, a = .ok (t, q) → s.SameElsewhere t) : Answers s.KeepsRanges a :=
    fun _ _ h => .of_same (ha h)
  unfold runCommand
  split
  · exact hsame cmdCreateEntry_same
  · exact hread (cmdReadEntry_reads p s)
  · exact hsame cmdModifyEntry_same
  · exact hsame cmdSuspendEntry_same
  · exact hsame cmdResumeEntry_same
  · exact hsame cmdRetireEntry_same
  · exact hsame cmdStartEntry_same
  · exact hsame cmdEndEntry_same
  · exact hread (cmdFindEntries_reads p s)
  · exact hsame cmdClearAll_same
  · exact hsame cmdAddException_same
  · exact hsame cmdRemoveException_same
  · exact hread (cmdListExceptions_reads p s)
  · exact hread (cmdDayClass_reads p s)
  · exact hsame cmdOverride_same
  · exact hsame cmdClearOverride_same
  · exact hsame cmdHold_same
  · exact hsame cmdReleaseHold_same
  · exact hread (cmdReadChannel_reads p s)
  · exact cmdConfigureChannel_ranges s p
  · exact cmdSetStagger_ranges s p
  · exact cmdConfigureButton_ranges s p
  · exact hread (cmdReadButton_reads p s)
  · exact cmdSetLightLimits_ranges s p
  · exact hread (cmdReadLight_reads p s)
  · exact cmdSetTime_ranges s p
  · exact hread (cmdReadTime_reads p s)
  · exact cmdSetTimeSource_ranges s p
  · exact cmdSetLineConfirm_ranges s p
  · exact hread (cmdReadLine_reads p s)
  · exact cmdSetSupply_ranges s p
  · exact hread (cmdReadSupply_reads p s)
  · exact hread (cmdReadStore_reads p s)
  · exact cmdLoadDefaults_ranges s p
  · exact hread (cmdLoadStatus_reads p s)
  · exact cmdReadChanges_ranges s p
  · exact cmdSetNoticeMask_ranges s p
  · exact hread (cmdIdentify_reads p s)
  · exact answers_error

theorem cmdProgramStore_ranges {p : List Byte} {tag : Byte} {s t : State} (h : cmdProgramStore p tag s = .ok t) : s.KeepsRanges t := by
  unfold cmdProgramStore at h
  repeat' split at h
  all_goals cases h
  exact .of_items rfl rfl

/-- What the port does keeps the ranges, since every command does. -/
theorem keepsRanges_portRelation : PortRelation State.KeepsRanges where
  refl := .refl
  trans := .trans
  port _ _ := .of_items rfl rfl
  command := runCommand_ranges
  program := cmdProgramStore_ranges

/-! ## A step -/

theorem exec_ranges {x : Instr} {s t : State} (hx : exec x s = .next t) : s.KeepsRanges t := by
  have hR := keepsRanges_portRelation
  have hrow {cmd tag : Byte} {p : List Byte} (he : (.next (s.submit cmd tag p) : Effect) = .next t) : s.KeepsRanges t := by
    cases he; exact hR.submit s cmd tag p
  have hevent {dt : Nat} {f : State → State} (hf : ∀ u : State, u.KeepsRanges (f u))
      (he : (.next (f (s.elapse dt)) : Effect) = .next t) : s.KeepsRanges t := by
    cases he; exact (elapse_ranges s dt).trans (hf _)
  cases x with
  | transactionStart dt => exact hevent hR.startTransaction hx
  | statusByteShifted dt => exact hevent hR.statusShifted hx
  | replyLatch dt => exact hevent hR.latchReply hx
  | requestFrame dt bytes n => exact hevent (fun u => hR.endRequest u bytes n) hx
  | replyReadEnd dt n => exact hevent (fun u => hR.endRead u n) hx
  | portReset dt => exact hevent portReset_ranges hx
  | portResetRelease dt => exact hevent hR.portRelease hx
  | programByteDone dt => exact hevent (fun u => programByteDone_ranges u hR) hx
  | enterBackup dt => exact hevent enterBackup_ranges hx
  | mainsReturn dt => exact hevent mainsReturn_ranges hx
  | restoreCountdownExpiry dt => exact hevent countdownExpiry_ranges hx
  | retainedSupplyLoss dt => exact hevent retainedLoss_ranges hx
  | powerUp a b => cases hx; exact powerUp_ranges s a b
  | secondBoundary dt => exact hevent secondBoundary_ranges hx
  | minuteEvaluation dt => exact hevent takeMinuteTick_ranges hx
  | overrideCountdown dt => exact hevent takeClaimTick_ranges hx
  | risingCrossing dt => exact hevent risingCrossing_ranges hx
  | fallingCrossing dt => exact hevent fallingCrossing_ranges hx
  | absenceTimeout dt => exact hevent absenceTimeout_ranges hx
  | crystalStop dt => exact hevent stopCrystal_ranges hx
  | crystalRun dt => exact hevent runCrystal_ranges hx
  | crystalTick dt => exact hevent crystalTick_ranges hx
  | coilAction dt c => exact hevent (fun u => coilAction_ranges u c) hx
  | pulseStart dt c => exact hevent (fun u => pulseStart_ranges u c) hx
  | operationComplete dt c => exact hevent (fun u => complete_ranges u c) hx
  | buttonInputLow dt b => exact hevent (fun u => inputLow_ranges u b) hx
  | buttonInputHigh dt b => exact hevent (fun u => inputHigh_ranges u b) hx
  | buttonDebounceExpiry dt b => exact hevent (fun u => debounceExpiry_ranges u b) hx
  | buttonReleaseConfirm dt b => exact hevent (fun u => releaseConfirm_ranges u b) hx
  | longPress dt b => exact hevent (fun u => longPress_ranges u b) hx
  | luxSample dt v => exact hevent (fun u => luxSample_ranges u (Nat.le_of_lt_succ (Nat.mod_lt v (by decide)))) hx
  | loadStep dt => exact hevent loadStep_ranges hx
  | restoreCountdownSecond dt => exact hevent countdownSecond_ranges hx
  | _ => exact hrow hx

theorem step_ranges {s t : State} (hs : step s = .next t) : s.KeepsRanges t :=
  keepsRanges_portRelation.step (fun _ _ => .of_items rfl rfl) elapse_ranges exec_ranges hs

/-- Settles O17: every step is a change that keeps the ranges. -/
theorem stepKeepsTimeAndLightRanges : Obligations.StepKeepsTimeAndLightRanges :=
  ⟨fun _ _ h hs => (step_ranges hs).time h, fun _ _ h hs => (step_ranges hs).light h⟩

end Sys2Proof.Machine
end

/-! The commands of the Light Monitor (R118, R119), and the crystal declared STOPPED and RUNNING (R124). -/

section
namespace Sys2Proof.Machine

/-! ## SET_LIGHT_LIMITS and READ_LIGHT (R118, R119) -/

theorem twoBytes_natOf (hi lo : Byte) : twoBytes (natOf hi lo) = [hi, lo] := by
  have hlo := lo.isLt
  have hdiv : natOf hi lo / 256 = hi.toNat := by unfold natOf; omega
  have hmod : byteOf (natOf hi lo) = lo := by
    refine BitVec.eq_of_toNat_eq ?_
    rw [byteOf, BitVec.toNat_ofNat, natOf]
    omega
  rw [twoBytes, hdiv, hmod]
  simp [byteOf]

section
variable {s t : State} {p : List Byte}

theorem cmdSetLightLimits_of_error {r : Result} (hl : s.loadRunning = false) (h : lightLimitsItem p s = .error r) :
    cmdSetLightLimits p s = .error r := by
  simp only [cmdSetLightLimits, hl, Bool.not_false, check_true, h]

theorem cmdSetLightLimits_of_ok (hl : s.loadRunning = false) (h : lightLimitsItem p s = .ok t) :
    cmdSetLightLimits p s = .ok (t, writeLimits t.light ++ [t.light.state.code]) := by
  simp only [cmdSetLightLimits, hl, Bool.not_false, check_true, h]

end

/-- Settles O42: SET_LIGHT_LIMITS by what reads the three limits, READ_LIGHT by the items as they stand. -/
theorem lightCommands : Obligations.LightCommands := by
  intro s tag e1 e0 l1 l0 c p hr hp enter leave
  have hlen : [e1, e0, l1, l0, c].length ≤ Config.maxParams := by simp [Config.maxParams]
  refine ⟨fun hl hne => congrArg Host.Outcome.next (submit_refused hr hp (by decide)
      (cmdSetLightLimits_of_error hl (lightLimitsItem_of_length hne))),
    fun hl hbad => congrArg Host.Outcome.next (submit_refused hr hlen (by decide)
      (cmdSetLightLimits_of_error hl (lightLimitsItem_of_bad hbad))),
    fun hl he hle hc hel => congrArg Host.Outcome.next (submit_replied hr hlen (by decide) (by decide) ?_),
    fun hne => congrArg Host.Outcome.next (submit_refused hr hp (by decide) ?_),
    congrArg Host.Outcome.next (submit_replied hr (by simp) (by decide) (by decide) ?_)⟩
  · refine (cmdSetLightLimits_of_ok hl (lightLimitsItem_of_ok he hle hc hel)).trans ?_
    simp [writeLimits, twoBytes_natOf, byteOf, State.setLight, enter, leave]
  · show cmdReadLight p s = _
    rw [cmdReadLight, List.isEmpty_eq_false_iff.mpr hne, check_false]
  · show cmdReadLight [] s = _
    cases he : s.light.lastEvent <;> simp [cmdReadLight, writeLimits, orAbsent, absent, he]

/-! ## CRYSTAL_STOP and CRYSTAL_RUN (R124, R125) -/

theorem makeDoubtful_of_valid {s : State} (h : s.time.validity = .valid) :
    s.makeDoubtful = (s.setTimeBase { s.time with validity := .doubtful }).raiseSystem .timeValidity := by
  rw [State.makeDoubtful, State.timeValid, h]
  rfl

theorem makeDoubtful_of_not_valid {s : State} (h : s.time.validity ≠ .valid) : s.makeDoubtful = s := by
  rw [State.makeDoubtful, State.timeValid, beq_eq_false_iff_ne.mpr h]
  rfl

/-- The part with the crystal just declared STOPPED, its validity apart (R124, R132). -/
def State.crystalLost (s : State) : State :=
  { s with
    osc := s.osc + 66, time := { s.time with crystalRunning := false }, line := { s.line with measureStart := none } }

theorem stopCrystal_of_running {s : State} (hs : s.supply.stopped = false) (hr : s.time.crystalRunning = true) :
    s.stopCrystal = if s.time.source = .crystal ∧ s.time.validity = .valid then
      (s.crystalLost.setTimeBase { s.crystalLost.time with validity := .doubtful }).raiseSystem .timeValidity
    else s.crystalLost := by
  have hlost : s.stopCrystal = if s.time.source = .crystal then s.crystalLost.makeDoubtful else s.crystalLost := by
    rw [State.stopCrystal, hs, hr]
    rfl
  rw [hlost]
  by_cases hsource : s.time.source = .crystal
  · by_cases hvalid : s.time.validity = .valid
    · rw [if_pos hsource, if_pos ⟨hsource, hvalid⟩]
      exact makeDoubtful_of_valid hvalid
    · rw [if_pos hsource, if_neg fun h => hvalid h.right]
      exact makeDoubtful_of_not_valid hvalid
  · rw [if_neg hsource, if_neg fun h => hsource h.left]

theorem runCrystal_of_stopped {s : State} (hs : s.supply.stopped = false) (hr : s.time.crystalRunning = false) :
    s.runCrystal = { s with
      time := { s.time with crystalRunning := true }, line := { s.line with absenceFrom := s.cycles },
      light := { s.light with nextSample := s.cycles + 32768 } } := by
  rw [State.runCrystal, hs, hr]
  rfl

/-- Settles O47: the stop by the source and the validity it finds, the run by its own equation. -/
theorem crystalStopsAndRuns : Obligations.CrystalStopsAndRuns := by
  intro s dt u hs
  have hstop : exec (.crystalStop dt) s = .next u.stopCrystal := rfl
  have hrun : exec (.crystalRun dt) s = .next u.runCrystal := rfl
  rw [hstop, hrun]
  clear_value u
  exact ⟨fun hr => congrArg _ (stopCrystal_of_running hs hr), fun hr => congrArg _ (runCrystal_of_stopped hs hr)⟩

end Sys2Proof.Machine
end

/-! The passing of time on an idle part and its clocks, the second boundary (R127, R128), the Line Monitor's commands (R138, R139), and
the crossings of the line with the hand-over of the seconds (R126, R132 to R137). -/

section
namespace Sys2Proof.Machine

/-! ## An idle part and its clocks (R124, R127, R143) -/

theorem step_of_due {s : State} {e : Instr} (hp : s.pending = []) (hd : s.dueEvent = some e) : step s = exec e s := by
  unfold step
  rw [hp, hd]

theorem step_of_idle {s : State} (hp : s.pending = []) (hd : s.dueEvent = none) : step s = .next (s.elapse 1) := by
  unfold step
  rw [hp, hd]
  rfl

/-- Settles O2: the step by what is due. -/
theorem stepOnEmptyQueue : Obligations.StepOnEmptyQueue :=
  fun _ hp => ⟨fun _ hd => step_of_due hp hd, step_of_idle hp⟩

section
variable {s : State} {dt : Nat}

theorem elapse_of_stopped (h : s.supply.stopped = true) : s.elapse dt = s := if_pos h

theorem elapse_of_powered (h : s.supply.stopped = false) : s.elapse dt =
    if s.time.crystalRunning then
      if s.time.source = .crystal then
        (s.setClocks (s.cycles + dt) (s.osc + dt)).setTimeBase { s.time with elapsed := s.time.elapsed + dt }
      else s.setClocks (s.cycles + dt) (s.osc + dt)
    else s.setClocks s.cycles (s.osc + dt) := if_neg (Bool.eq_false_iff.mp h)

end

/-- Settles O3: the clocks by the domain, the crystal and the source. -/
theorem timePassesOnTheClocks : Obligations.TimePassesOnTheClocks := by
  refine fun s dt => ⟨elapse_of_stopped, fun hs hr hc => ?_, fun hs hr hl => ?_, fun hs hr => ?_⟩
  · rw [elapse_of_powered hs, if_pos hr, if_pos hc]; rfl
  · rw [elapse_of_powered hs, if_pos hr, if_neg (by simp [hl])]; rfl
  · rw [elapse_of_powered hs, if_neg (by simp [hr])]; rfl

/-! ## SET_LINE_CONFIRM and READ_LINE (R138, R139) -/

theorem cmdSetLineConfirm_of_error {s : State} {p : List Byte} {r : Result} (h : lineConfirmItem p s = .error r) :
    cmdSetLineConfirm p s = .error r := by
  simp only [cmdSetLineConfirm, h]

theorem cmdSetLineConfirm_of_ok {s t : State} {p : List Byte} (h : lineConfirmItem p s = .ok t) :
    cmdSetLineConfirm p s = .ok (t, [byteOf t.line.confirmCount, t.line.state.code]) := by
  simp only [cmdSetLineConfirm, h]

/-- Settles O45: SET_LINE_CONFIRM by what reads K, READ_LINE by the items as they stand. -/
theorem lineCommands : Obligations.LineCommands := by
  intro s tag k p hr hp
  refine ⟨fun hne => congrArg Host.Outcome.next (submit_refused hr hp (by decide)
      (cmdSetLineConfirm_of_error (lineConfirmItem_of_length hne))),
    fun hbad => congrArg Host.Outcome.next (submit_refused hr (by simp [Config.maxParams]) (by decide)
      (cmdSetLineConfirm_of_error (lineConfirmItem_of_bad hbad))),
    fun h4 h63 => congrArg Host.Outcome.next (submit_replied hr (by simp [Config.maxParams]) (by decide) (by decide) ?_),
    fun hne => congrArg Host.Outcome.next (submit_refused hr hp (by decide) ?_),
    congrArg Host.Outcome.next (submit_replied hr (by simp) (by decide) (by decide) ?_)⟩
  · refine (cmdSetLineConfirm_of_ok (lineConfirmItem_of_ok h4 h63)).trans ?_
    simp [byteOf, State.setLine]
  · show cmdReadLine p s = _
    rw [cmdReadLine, List.isEmpty_eq_false_iff.mpr hne, check_false]
  · rfl

/-! ## The second boundary (R122, R127, R128) -/

/-- The calendar wraps after its last second alone (R122). -/
theorem wraps_iff_last {t : CalTime} (h : t.isReal = true) : t.wraps = true ↔ t = ⟨⟨2199, 12, 31⟩, ⟨23, 59⟩, 59⟩ := by
  obtain ⟨d, ⟨hour, minute⟩, second⟩ := t
  simp only [CalTime.isReal, TimeOfDay.isReal, Bool.and_eq_true, decide_eq_true_eq] at h
  simp only [CalTime.wraps, Bool.and_eq_true, decide_eq_true_eq, beq_iff_eq, CalTime.mk.injEq, TimeOfDay.mk.injEq, Date.last]
  constructor
  · rintro ⟨⟨⟨hsecond, hminute⟩, hhour⟩, rfl⟩
    exact ⟨rfl, ⟨by omega, by omega⟩, by omega⟩
  · rintro ⟨rfl, ⟨rfl, rfl⟩, rfl⟩
    exact ⟨⟨⟨le_rfl, le_rfl⟩, le_rfl⟩, rfl⟩

/-- VALID time made DOUBTFUL is the validity replaced, reasons aside (R125). -/
theorem makeDoubtful_raised (s : State) : (s.setTimeBase { s.time with
    validity := if s.time.validity = .valid then .doubtful else s.time.validity }).Raised s.makeDoubtful := by
  by_cases hv : s.time.validity = .valid
  · rw [makeDoubtful_of_valid hv, if_pos hv]
    exact raise_raised _ _ _ _
  · rw [makeDoubtful_of_not_valid hv, if_neg hv]
    exact .refl s

/-- The Time Base after a second boundary (R127, R128). -/
def State.advanced (s : State) : TimeBase :=
  { s.time with
    time := s.time.time.nextSecond
    elapsed := s.time.elapsed - s.time.limit
    divisor := if s.time.source = .line then some s.verdictHertz else none
    tableTickOwed := s.time.tableTickOwed || s.time.time.rollsMinute
    claimTickOwed := s.time.claimTickOwed || s.time.time.rollsMinute
    validity := if s.time.time.wraps = true ∧ s.time.validity = .valid then .doubtful else s.time.validity }

/-- A second boundary that is due replaces the Time Base, reasons aside. -/
theorem secondBoundary_raised {s : State} (hd : s.secondDue = true) :
    (s.setTimeBase s.advanced).Raised s.secondBoundary := by
  rw [State.secondBoundary, if_pos hd]
  by_cases hw : s.time.time.wraps = true
  · have hraised := makeDoubtful_raised s
    have ⟨⟨x, hx⟩, _⟩ := hraised
    simp only [if_pos hw]
    refine (hraised.replace (f := (·.setTimeBase s.advanced)) (fun _ _ => rfl) fun _ => rfl).trans ?_
    rw [hx]
    simp only [State.advanced, hw, true_and]
    exact .refl _
  · simp only [State.advanced, hw, false_and, Bool.false_eq_true, if_false]
    exact .refl _

/-- Settles O46: the second boundary replaces the Time Base alone, and the calendar wraps after its last second. -/
theorem secondBoundaryAdvances : Obligations.SecondBoundaryAdvances := by
  intro s dt u t limit hreal hs hlimit
  have hdue : u.secondDue = true := by
    simp only [State.secondDue, hs, Bool.not_false, Bool.true_and, decide_eq_true_eq]
    exact hlimit
  obtain ⟨⟨x, hx⟩, -⟩ := secondBoundary_raised hdue
  have hvalidity : u.advanced.validity =
      if t.time = ⟨⟨2199, 12, 31⟩, ⟨23, 59⟩, 59⟩ ∧ t.validity = .valid then .doubtful else t.validity := by
    simp only [← wraps_iff_last hreal]
    rfl
  refine ⟨_, congrArg Host.Outcome.next hx, ?_⟩
  exact ⟨rfl, rfl, rfl, rfl, rfl, hvalidity, rfl, rfl, rfl, rfl, rfl⟩

/-! ## The hand-over (R125, R126) -/

section
variable {s : State}

theorem judgedSource_of_locked (h : s.time.preference = .auto ∧ s.line.state = .locked) : s.judgedSource = .line := if_pos h

theorem judgedSource_of_not_locked (h : ¬ (s.time.preference = .auto ∧ s.line.state = .locked)) :
    s.judgedSource = .crystal := if_neg h

theorem judgeSource_of_judged (h : s.judgedSource = s.time.source) : s.judgeSource = s := if_pos h

theorem judgeSource_of_acquiring (h : s.line.state = .acquiring) (hc : s.time.source = .crystal) : s.judgeSource = s :=
  judgeSource_of_judged ((judgedSource_of_not_locked (by simp [h])).trans hc.symm)

theorem judgeSource_to_line (h : s.judgedSource = .line) (hs : s.time.source = .crystal) : s.judgeSource = s.handToLine := by
  rw [State.judgeSource, h, hs]
  rfl

theorem judgeSource_to_crystal (h : s.judgedSource = .crystal) (hs : s.time.source = .line) :
    s.judgeSource = s.handToCrystal := by
  rw [State.judgeSource, h, hs]
  rfl

theorem handToLine_of_verdict {k : LineClass} (h : s.line.verdict = some k) :
    s.handToLine = s.setTimeBase { s.time with
      source := .line, divisor := some k.hertz, elapsed := s.time.elapsed * k.hertz / 32768 } := by
  have hn : s.verdictHertz = k.hertz := by rw [State.verdictHertz, h]
  rw [State.handToLine, hn]
  rfl

/-- The part with the fraction of the second carried to the crystal from a line of `hertz` crossings, its validity apart (R126). -/
def State.onCrystal (s : State) (hertz : Nat) : State :=
  s.setTimeBase { s.time with source := .crystal, divisor := none, elapsed := s.time.elapsed * 32768 / hertz }

theorem handToCrystal_of_divisor {hertz : Nat} (h : s.time.divisor = some hertz) : s.handToCrystal =
    if s.time.crystalRunning then s.onCrystal hertz else (s.onCrystal hertz).makeDoubtful := by
  rw [State.handToCrystal, h]
  rfl

theorem judgeSource_lineMonitor (s : State) : s.judgeSource.line = s.line := by
  obtain ⟨x, -, -, ⟨⟨y, hy⟩, -⟩⟩ := judgeSource_raised s
  rw [hy]
  rfl

end

/-! ## A cycle in the Line Monitor (R134, R135) -/

section
variable {l : LineMonitor} {n : Nat} {k : LineClass}

theorem acquire_of_out (h : cycleClass n = none) : l.acquire n = { l with counting := none, agreement := 0 } := by
  rw [LineMonitor.acquire, h]

theorem acquire_of_locking (h : cycleClass n = some k) (hk : l.counting = some k) (hc : l.confirmCount ≤ l.agreement + 1) :
    l.acquire n = { l with
      state := .locked, verdict := some k, disagreement := 0, agreement := 0, counting := none, lastPeriod := some n } := by
  simp only [LineMonitor.acquire, h, if_pos hk, if_pos hc]

theorem acquire_of_agreeing (h : cycleClass n = some k) (hk : l.counting = some k) (hc : l.agreement + 1 < l.confirmCount) :
    l.acquire n = { l with agreement := l.agreement + 1, lastPeriod := some n } := by
  simp only [LineMonitor.acquire, h, if_pos hk, if_neg (Nat.not_le.mpr hc)]
  rw [hk]

theorem acquire_of_other (h : cycleClass n = some k) (hk : l.counting ≠ some k) (hc : 1 < l.confirmCount) :
    l.acquire n = { l with counting := some k, agreement := 1, lastPeriod := some n } := by
  simp only [LineMonitor.acquire, h, if_neg hk, if_neg (Nat.not_le.mpr hc)]

theorem compare_of_agreeing (hv : l.verdict = some k) (h : cycleClass n = some k) :
    l.compare n = { l with disagreement := 0, lastPeriod := some n } := if_pos ⟨by simp [h], h.trans hv.symm⟩

theorem compare_of_disagreeing (hv : l.verdict = some k) (h : cycleClass n ≠ some k) (hc : l.disagreement + 1 < l.confirmCount) :
    l.compare n = { l with disagreement := l.disagreement + 1 } :=
  (if_neg fun hok => h (hok.2.trans hv)).trans (if_neg (Nat.not_le.mpr hc))

theorem compare_of_leaving (hv : l.verdict = some k) (h : cycleClass n ≠ some k) (hc : l.confirmCount ≤ l.disagreement + 1) :
    l.compare n = { l with state := .acquiring, counting := none, agreement := 0, verdict := none, disagreement := 0 } :=
  (if_neg fun hok => h (hok.2.trans hv)).trans (if_pos hc)

end

/-! ## A rising crossing in the Line Monitor's own state (R132, R134 to R136) -/

/-- The instant of a rising crossing noted while the crystal runs: the last crossing, the absence timer's instant and the measure
start (R132, R136). -/
def LineMonitor.marked (l : LineMonitor) (now : Nat) : LineMonitor :=
  { l with measureStart := some now, lastCrossing := some now, absenceFrom := now }

section
variable {l x : LineMonitor} {now m : Nat}

theorem rise_of_absent (h : l.state = .absent) :
    l.rise now true = { l with state := .acquiring, counting := none, agreement := 0 }.marked now := by
  rw [LineMonitor.rise, h]
  rfl

theorem rise_of_acquiring (h : l.state = .acquiring) (hm : l.measureStart = some m) (hx : l.acquire (now - m) = x) :
    l.rise now true = x.marked now := by
  simp only [LineMonitor.rise, h, hm, LineMonitor.classify, hx]
  rfl

theorem rise_of_locked (h : l.state = .locked) (hm : l.measureStart = some m) (hx : l.compare (now - m) = x) :
    l.rise now true = x.marked now := by
  simp only [LineMonitor.rise, h, hm, LineMonitor.classify, hx]
  rfl

end

/-! ## Crossings at the part (R127, R133, R137) -/

section
variable {s : State} {l : LineMonitor}

theorem updateLine_of_same (h : l.state = s.line.state) : s.updateLine l = s.setLine l := if_pos h

theorem updateLine_of_changed (h : l.state ≠ s.line.state) : s.updateLine l = (s.setLine l).raiseSystem .line := if_neg h

theorem lineSensed_of_supply (h : s.supply.state ≠ .backup) : s.lineSensed = true := bne_iff_ne.mpr h

/-- A crossing that does not find LOCKED and leave it is a matter of the Line Monitor and the source alone. -/
theorem risingCrossing_of_not_kept (hs : s.lineSensed = true) (hl : s.line.rise s.cycles s.time.crystalRunning = l)
    (hk : ¬ (s.line.state = .locked ∧ l.state = .locked)) : s.risingCrossing = (s.updateLine l).judgeSource := by
  have hstate : (s.updateLine l).judgeSource.line.state = l.state := by
    obtain ⟨⟨x, hx⟩, -⟩ := updateLine_raised s l
    rw [judgeSource_lineMonitor, hx]
    rfl
  rw [State.risingCrossing, if_pos hs, hl]
  dsimp only
  rw [hstate, if_neg hk]

theorem risingCrossing_of_changed (hs : s.lineSensed = true) (hl : s.line.rise s.cycles s.time.crystalRunning = l)
    (hc : l.state ≠ s.line.state) : s.risingCrossing = ((s.setLine l).raiseSystem .line).judgeSource := by
  rw [risingCrossing_of_not_kept hs hl fun h => hc (h.2.trans h.1.symm), updateLine_of_changed hc]

theorem risingCrossing_of_acquiring (hs : s.lineSensed = true) (hl : s.line.rise s.cycles s.time.crystalRunning = l)
    (hb : s.line.state = .acquiring) (ha : l.state = .acquiring) (hc : s.time.source = .crystal) :
    s.risingCrossing = s.setLine l := by
  rw [risingCrossing_of_not_kept hs hl (by simp [hb]), updateLine_of_same (ha.trans hb.symm)]
  exact judgeSource_of_acquiring ha hc

/-- A crossing that finds LOCKED and leaves it, with the source as judged, is counted on the line and is a switching slot. -/
theorem risingCrossing_of_kept (hs : s.lineSensed = true) (hl : s.line.rise s.cycles s.time.crystalRunning = l)
    (hb : s.line.state = .locked) (ha : l.state = .locked) (hj : (s.setLine l).judgedSource = s.time.source) :
    s.risingCrossing = (if s.time.source = .line then
      (s.setLine l).setTimeBase { s.time with elapsed := s.time.elapsed + 1 } else s.setLine l).switchingSlot := by
  rw [State.risingCrossing, if_pos hs, hl, updateLine_of_same (ha.trans hb.symm), judgeSource_of_judged hj]
  exact if_pos ⟨hb, ha⟩

theorem risingCrossing_of_counted (hs : s.lineSensed = true) (hl : s.line.rise s.cycles s.time.crystalRunning = l)
    (hb : s.line.state = .locked) (ha : l.state = .locked) (hc : s.time.source = .line) (hp : s.time.preference = .auto) :
    s.risingCrossing = ((s.setLine l).setTimeBase { s.time with elapsed := s.time.elapsed + 1 }).switchingSlot := by
  have hj : (s.setLine l).judgedSource = .line := judgedSource_of_locked ⟨hp, ha⟩
  rw [risingCrossing_of_kept hs hl hb ha (hj.trans hc.symm), if_pos hc]

theorem risingCrossing_of_uncounted (hs : s.lineSensed = true) (hl : s.line.rise s.cycles s.time.crystalRunning = l)
    (hb : s.line.state = .locked) (ha : l.state = .locked) (hc : s.time.source = .crystal) (hp : s.time.preference = .crystal) :
    s.risingCrossing = (s.setLine l).switchingSlot := by
  have hj : (s.setLine l).judgedSource = .crystal := judgedSource_of_not_locked fun h => by simp [hp] at h
  rw [risingCrossing_of_kept hs hl hb ha (hj.trans hc.symm), if_neg (by simp [hc])]

theorem fallingCrossing_of_sensed (hs : s.lineSensed = true) :
    s.fallingCrossing = if s.line.state = .locked then (s.setLine { s.line with lastCrossing := some s.cycles }).switchingSlot
      else s.setLine { s.line with lastCrossing := some s.cycles } := if_pos hs

theorem absenceTimeout_of_due (hs : s.lineSensed = true) (hr : s.time.crystalRunning = true) (hl : s.line.state ≠ .absent)
    (ht : s.line.absenceFrom + 1966 ≤ s.cycles) :
    s.absenceTimeout = ((s.setLine s.line.gone).raiseSystem .line).judgeSource := by
  have hdue : s.absenceDue = true := by
    simp [State.absenceDue, hs, hr, hl, Config.absenceCycles, ht]
  rw [State.absenceTimeout, if_pos hdue, updateLine_of_changed fun h => hl h.symm]

end

/-! ## The obligation -/

/-- The second part of O48: the hand-over by what the preference and the line judge, and by the source held. -/
theorem judgeSource_hands_over (u : State) :
    let t := u.time
    let locked := t.preference = .auto ∧ u.line.state = .locked
    (locked → t.source = .line → u.judgeSource = u) ∧ (¬ locked → t.source = .crystal → u.judgeSource = u) ∧
    (∀ k, locked → t.source = .crystal → u.line.verdict = some k →
      u.judgeSource = { u with
        time := { t with source := .line, divisor := some k.hertz, elapsed := t.elapsed * k.hertz / 32768 } }) ∧
    (∀ hertz, ¬ locked → t.source = .line → t.divisor = some hertz →
      (t.crystalRunning = true ∨ t.validity ≠ .valid → u.judgeSource = u.onCrystal hertz) ∧
      (t.crystalRunning = false → t.validity = .valid →
        u.judgeSource = ((u.onCrystal hertz).setTimeBase
          { (u.onCrystal hertz).time with validity := .doubtful }).raiseSystem .timeValidity)) := by
  refine ⟨fun hl hc => judgeSource_of_judged ((judgedSource_of_locked hl).trans hc.symm),
    fun hl hc => judgeSource_of_judged ((judgedSource_of_not_locked hl).trans hc.symm),
    fun k hl hc hv => (judgeSource_to_line (judgedSource_of_locked hl) hc).trans (handToLine_of_verdict hv),
    fun hertz hl hc hd => ?_⟩
  have hhand : u.judgeSource = if u.time.crystalRunning then u.onCrystal hertz else (u.onCrystal hertz).makeDoubtful :=
    (judgeSource_to_crystal (judgedSource_of_not_locked hl) hc).trans (handToCrystal_of_divisor hd)
  refine ⟨fun hok => ?_, fun hr hv => ?_⟩
  · by_cases hr : u.time.crystalRunning = true
    · rw [hhand, if_pos hr]
    · rw [hhand, if_neg hr]
      exact makeDoubtful_of_not_valid (hok.resolve_left hr)
  · rw [hhand, if_neg (by simp [hr])]
    exact makeDoubtful_of_valid hv

/-- Settles O48: the crossings by the line state they find and the class of their cycle, the hand-over by the source held. -/
theorem crossingsDriveTheLine : Obligations.CrossingsDriveTheLine := by
  constructor
  · intro s dt u l mark hsupply hrun
    have hrise : exec (.risingCrossing dt) s = .next u.risingCrossing := rfl
    have hfall : exec (.fallingCrossing dt) s = .next u.fallingCrossing := rfl
    have habsence : exec (.absenceTimeout dt) s = .next u.absenceTimeout := rfl
    rw [hrise, hfall, habsence]
    clear_value u
    have hs := lineSensed_of_supply hsupply
    have risen {x : LineMonitor} (h : l.rise u.cycles true = x) : u.line.rise u.cycles u.time.crystalRunning = x :=
      hrun ▸ h
    refine ⟨fun hb hc => congrArg _ ?_, fun m k hb hm hk hclass hcount => congrArg _ ?_, fun m hb hm hc => ⟨?_, ?_, ?_⟩,
      fun m k hb hm hv hclass hc hp => congrArg _ ?_, fun m k hb hm hv hclass => ⟨?_, ?_, ?_⟩,
      congrArg _ (fallingCrossing_of_sensed hs), fun hl ht => congrArg _ (absenceTimeout_of_due hs hrun hl ht)⟩
    · have hchanged := risingCrossing_of_changed hs (risen (rise_of_absent hb)) (hb ▸ nofun)
      exact hchanged.trans (judgeSource_of_acquiring rfl hc)
    · have hcycle := rise_of_acquiring hb hm (acquire_of_locking hclass hk hcount)
      exact risingCrossing_of_changed hs (risen hcycle) (hb ▸ nofun)
    · intro k hclass hk hcount
      have hcycle := rise_of_acquiring hb hm (acquire_of_agreeing hclass hk hcount)
      exact congrArg _ (risingCrossing_of_acquiring hs (risen hcycle) hb hb hc)
    · intro k hclass hk hcount
      have hcycle := rise_of_acquiring hb hm (acquire_of_other hclass hk hcount)
      exact congrArg _ (risingCrossing_of_acquiring hs (risen hcycle) hb hb hc)
    · intro hclass
      have hcycle := rise_of_acquiring hb hm (acquire_of_out hclass)
      exact congrArg _ (risingCrossing_of_acquiring hs (risen hcycle) hb hb hc)
    · have hcycle := rise_of_locked hb hm (compare_of_agreeing hv hclass)
      exact risingCrossing_of_counted hs (risen hcycle) hb hb hc hp
    · intro hcount hc hp
      have hcycle := rise_of_locked hb hm (compare_of_disagreeing hv hclass hcount)
      exact congrArg _ (risingCrossing_of_counted hs (risen hcycle) hb hb hc hp)
    · intro hcount hc hp
      have hcycle := rise_of_locked hb hm (compare_of_disagreeing hv hclass hcount)
      exact congrArg _ (risingCrossing_of_uncounted hs (risen hcycle) hb hb hc hp)
    · intro hcount
      have hcycle := rise_of_locked hb hm (compare_of_leaving hv hclass hcount)
      exact congrArg _ (risingCrossing_of_changed hs (risen hcycle) (hb ▸ nofun))
  · intro u
    obtain ⟨hline, hcrystal, htoLine, htoCrystal⟩ := judgeSource_hands_over u
    refine ⟨hline, hcrystal, fun k hl hc hv => ?_, htoCrystal⟩
    cases k <;> exact htoLine _ hl hc hv

end Sys2Proof.Machine
end

/-! The return of the mains, the loss of the retained domain and the power-up (R143, R145 to R147), and the commands of the Supply
Controller (R150, R151). -/

section
namespace Sys2Proof.Machine

/-! ## SET_SUPPLY and READ_SUPPLY (R150, R151) -/

theorem cmdSetSupply_of_length {s : State} {p : List Byte} (h : p.length ≠ 1) : cmdSetSupply p s = .error .badLength := by
  unfold cmdSetSupply
  split
  · simp at h
  · rfl

/-- Settles O49: SET_SUPPLY by the one length it takes, READ_SUPPLY by the items as they stand. -/
theorem supplyCommands : Obligations.SupplyCommands := by
  intro s tag d p hr hp
  refine ⟨fun hne => congrArg Host.Outcome.next (submit_refused hr hp (by decide) (cmdSetSupply_of_length hne)),
    congrArg Host.Outcome.next (submit_replied hr (by simp [Config.maxParams]) (by decide) (by decide) rfl),
    fun hne => congrArg Host.Outcome.next (submit_refused hr hp (by decide) ?_),
    congrArg Host.Outcome.next (submit_replied hr (by simp) (by decide) (by decide) ?_)⟩
  · show cmdReadSupply p s = _
    rw [cmdReadSupply, List.isEmpty_eq_false_iff.mpr hne, check_false]
  · show cmdReadSupply [] s = _
    simp [cmdReadSupply, writeFlag]

/-! ## The buttons at the entry to RESTORING (R107) -/

/-- A button at the entry to RESTORING: its input sampled, and an enabled one held low waiting for its release (R107). -/
def Button.sampled (x : Button) : Button :=
  { x with sampledLow := x.pinLow, press := if x.enabled && x.pinLow then .longDone none else .released }

theorem sampled_cold (low : Bool) : (Button.cold low).sampled = Button.cold low := rfl

theorem sampleButton_eq (s : State) (b : ButtonNo) : s.sampleButton b = s.setButton b (s.button b).sampled := by
  cases h : (s.button b).enabled <;> simp [State.sampleButton, Button.sampled, Button.atExamination, h]

theorem sampleAll_button (s : State) (b : ButtonNo) :
    (s.forEach allButtons State.sampleButton).button b = (s.button b).sampled := by
  have hone (s : State) (b d : ButtonNo) :
      (s.sampleButton b).button d = if b = d then (s.button b).sampled else s.button d := by
    rw [sampleButton_eq, button_setButton]
  rw [forEach_record allButtons_nodup (get := State.button) (g := Button.sampled) hone, if_pos (mem_allButtons b)]

theorem sampleAll_eq (s : State) :
    s.forEach allButtons State.sampleButton = s.setButtons (s.buttons.map Button.sampled) := by
  have hbuttons : ∃ x, s.forEach allButtons State.sampleButton = s.setButtons x :=
    forEach_keeps (f := State.sampleButton) (P := fun t => ∃ x, t = s.setButtons x)
      (fun t b _ ⟨x, h⟩ => ⟨x.set b (t.button b).sampled, by rw [sampleButton_eq, State.setButton, h]; rfl⟩) ⟨s.buttons, rfl⟩
  obtain ⟨x, hx⟩ := hbuttons
  rw [hx]
  congr 1
  refine Vector.ext fun i hi => ?_
  have hb := sampleAll_button s ⟨i, hi⟩
  rw [hx] at hb
  simpa [State.button] using hb

/-! ## The entry to RESTORING (R145 to R149) -/

/-- What a warm restore and a cold start share: the countdown loaded, the port with empty queues, the first sample a second away and
the buttons sampled (R107, R111, R147, R179). -/
def State.countingDown (u : State) : State :=
  { u with
    supply := { u.supply with countdown := some u.supply.restoreDelay, countdownDue := u.cycles + 32768 }
    port := u.port.quiet
    light := { u.light with nextSample := u.cycles + 32768 }
    buttons := u.buttons.map Button.sampled }

theorem countingDown_button (u : State) (b : ButtonNo) : u.countingDown.button b = (u.button b).sampled := by
  simp [State.button, State.countingDown]

theorem restored_of_valid {s : State} (h : s.supply.signatureValid = true) : s.restored = s.warmRestore.countingDown := by
  simp only [State.restored, h, if_true, sampleAll_eq]
  rfl

theorem restored_of_invalid {s : State} (h : s.supply.signatureValid = false) : s.restored = s.coldStart.countingDown := by
  simp only [State.restored, h, Bool.false_eq_true, if_false, sampleAll_eq]
  rfl

theorem restoredLoading_of_pending {s : State} (h : s.restored.supply.loadPending = true) :
    s.restoredLoading = s.restored.startLoad .restore := if_pos h

theorem restoredLoading_of_not_pending {s : State} (h : s.restored.supply.loadPending = false) :
    s.restoredLoading = s.restored := if_neg (by simp [h])

theorem enterRestoring_of_delay {s : State} (h : s.restoredLoading.supply.restoreDelay ≠ 0) :
    s.enterRestoring = s.restoredLoading := (enterRestoring_eq s).trans (if_neg h)

/-- A warm restore with a delay to count and no load owed (R145). -/
theorem enterRestoring_warm {s : State} (hv : s.supply.signatureValid = true) (hl : s.supply.loadPending = false)
    (hd : 0 < s.supply.restoreDelay) : s.enterRestoring = s.warmRestore.countingDown := by
  have hrestored := restored_of_valid hv
  have hloading : s.restoredLoading = s.warmRestore.countingDown :=
    (restoredLoading_of_not_pending (by rw [hrestored]; exact hl)).trans hrestored
  rw [enterRestoring_of_delay (by rw [hloading]; exact Nat.ne_of_gt hd), hloading]

theorem headerTests_erased : headerTests [] = some .marker :=
  headerTests_of_front (frontTests_of_marker (by simp [MarkerOk, readCell, Config.erasedByte]))

/-- The record of a restore load that finds the store erased (R159; log 13). -/
def erasedLoad (osc : Nat) : LoadRecord :=
  { LoadRecord.fresh .restore [] osc with state := .storeBad, phase := none, next := none, badReason := some .marker }

/-- A cold start with the store erased: the load it owes starts and ends at once (R146, R149, R159). -/
theorem enterRestoring_cold {s : State} (hv : s.supply.signatureValid = false) (ha : s.store.array = []) :
    s.enterRestoring = s.coldStart.countingDown.endLoad (erasedLoad s.osc) := by
  have hrestored := restored_of_invalid hv
  have harray : s.coldStart.countingDown.store.array = [] := ha
  have hloading : s.restoredLoading = s.coldStart.countingDown.endLoad (erasedLoad s.osc) := by
    rw [restoredLoading_of_pending (by rw [hrestored]; rfl), hrestored,
      startLoad_of_bad .restore (by rw [harray]; exact headerTests_erased), harray]
    rfl
  rw [enterRestoring_of_delay (by rw [hloading]; exact (by decide : (10 : Nat) ≠ 0)), hloading]

theorem mainsReturn_of_backup {s : State} (hb : s.supply.state = .backup) (hs : s.supply.stopped = false) :
    s.mainsReturn = s.enterRestoring := by
  simp only [State.mainsReturn, hb, hs, if_true, Bool.false_eq_true, if_false]

/-! ## Cold-start values (R143, R146) -/

theorem chan_of_cold {t : State} (h : t.channels = Vector.replicate 16 Channel.cold) (c : Chan) : t.chan c = Channel.cold := by
  simp [State.chan, h]

theorem button_of_cold {s t : State} (h : t.buttons = s.buttons.map fun x => Button.cold x.pinLow) (b : ButtonNo) :
    t.button b = Button.cold (s.button b).pinLow := by
  simp [State.button, h]

/-- A cold start that finds the store erased asserts ATTN: COLD_START and LOAD_DONE wait, and every kind is in the mask (R184). -/
theorem coldStart_attn (s : State) (l : LoadRecord) : (s.coldStart.countingDown.endLoad l).attn = true := by
  have hstate : (s.coldStart.countingDown.endLoad l).supply.state = .restoring := rfl
  have hchanges : (s.coldStart.countingDown.endLoad l).port.changes = [⟨.system, 0, 0x21⟩] := rfl
  have hmask : (s.coldStart.countingDown.endLoad l).port.mask = 0xF := rfl
  rw [State.attn, hstate, hchanges, hmask]
  decide

/-! ## Power-up (R143) -/

theorem elapse_zero (s : State) : s.elapse 0 = s := by
  by_cases hs : s.supply.stopped = true
  · exact elapse_of_stopped hs
  · rw [elapse_of_powered (Bool.eq_false_iff.mpr hs)]
    split
    · split <;> rfl
    · rfl

theorem powerUp_of_stopped {s : State} (h : s.supply.stopped = true) (vmain r : Bool) :
    s.powerUp vmain r = if vmain then (s.powerUpValues r).enterRestoring else s.powerUpValues r := if_pos h

theorem powerUpValues_light (s : State) (r : Bool) : (s.powerUpValues r).light = LightMonitor.cold 32768 := by
  simp [State.powerUpValues, State.coldValues, Config.second]

/-- With VMAIN up a power-up is followed by the return of the mains at the same instant (R143). -/
theorem powerUp_mains {s : State} (h : s.supply.stopped = true) (r : Bool) :
    s.powerUp true r = ((s.powerUpValues r).elapse 0).mainsReturn := by
  rw [elapse_zero, mainsReturn_of_backup rfl rfl, powerUp_of_stopped h, if_pos rfl]

/-! ## The obligation -/

theorem exec_mainsReturn {s : State} {dt : Nat} (hb : (s.elapse dt).supply.state = .backup)
    (hs : (s.elapse dt).supply.stopped = false) : exec (.mainsReturn dt) s = .next (s.elapse dt).enterRestoring :=
  congrArg Host.Outcome.next (mainsReturn_of_backup hb hs)

/-- Settles O52: each return of the mains by the state it enters, the power-up by the cold-start values in BACKUP. -/
theorem mainsReturnAndPowerUp : Obligations.MainsReturnAndPowerUp := by
  refine ⟨?warm, ?cold, ?loss, ?powerUp⟩
  case warm =>
    intro s dt u hb hs hv hl hd
    have hexec : exec (.mainsReturn dt) s = .next u.warmRestore.countingDown :=
      (exec_mainsReturn hb hs).trans (congrArg _ (enterRestoring_warm hv hl hd))
    clear_value u
    exact ⟨_, hexec, rfl, rfl, rfl, countingDown_button _, rfl, rfl, rfl, rfl, rfl, rfl, rfl, rfl⟩
  case cold =>
    intro s dt u hb hs hv ha
    have hexec : exec (.mainsReturn dt) s = .next (u.coldStart.countingDown.endLoad (erasedLoad u.osc)) :=
      (exec_mainsReturn hb hs).trans (congrArg _ (enterRestoring_cold hv ha))
    clear_value u
    have hbutton (b : ButtonNo) : u.coldStart.countingDown.button b = Button.cold (u.button b).pinLow := by
      rw [countingDown_button, button_of_cold (s := u) rfl, sampled_cold]
    exact ⟨_, hexec, rfl, rfl, rfl, chan_of_cold rfl, rfl, rfl, rfl, rfl, rfl, rfl, rfl, rfl, rfl, rfl, rfl, rfl, rfl, rfl, rfl,
      rfl, ha, rfl, hbutton, rfl, rfl, rfl, rfl, rfl, rfl, rfl, coldStart_attn u _⟩
  case loss =>
    exact fun s dt hb => congrArg Host.Outcome.next (if_pos hb)
  case powerUp =>
    intro s r hs
    have hexec (vmain : Bool) : exec (.powerUp vmain r) s = .next (s.powerUp vmain r) := rfl
    exact ⟨s.powerUpValues r, (hexec false).trans (congrArg _ (powerUp_of_stopped hs false r)), rfl, rfl, rfl, chan_of_cold rfl,
      rfl, rfl, rfl, rfl, button_of_cold rfl, powerUpValues_light s r, rfl, rfl, rfl, rfl,
      (hexec true).trans (congrArg Host.Outcome.next (powerUp_mains hs r))⟩

end Sys2Proof.Machine
end

/-! What leaves the default program store as it stands: the events of the other blocks, and the commands that are not of the store. -/

section
namespace Sys2Proof.Machine

/-! ## What leaves the store as it stands -/

theorem State.Raised.store {s t : State} (h : s.Raised t) : t.store = s.store := by
  obtain ⟨⟨_, rfl⟩, -⟩ := h
  rfl

theorem forEach_store {α : Type} {f : State → α → State} (hf : ∀ (s : State) (a : α), (f s a).store = s.store)
    (l : List α) (s : State) : (s.forEach l f).store = s.store :=
  forEach_keeps (P := fun t => t.store = s.store) (fun t a _ h => (hf t a).trans h) rfl

section
variable (s : State)

theorem elapse_store (dt : Nat) : (s.elapse dt).store = s.store := by
  unfold State.elapse
  dsimp only
  repeat' split
  all_goals rfl

/-! ### The Switching Engine -/

theorem scanQueue_store (cs : List Chan) (room : Nat) : (scanQueue s cs room).1.store = s.store := by
  induction cs generalizing s room with
  | nil => rfl
  | cons c cs ih =>
    cases room with
    | zero => rfl
    | succ room =>
      unfold scanQueue
      split
      · exact ih _ _
      · exact ih _ _

theorem switchingSlot_store : s.switchingSlot.store = s.store := scanQueue_store s _ _

theorem crystalTick_store : s.crystalTick.store = s.store := by
  unfold State.crystalTick
  dsimp only
  split
  · split
    · rfl
    · exact switchingSlot_store _
  · rfl

theorem coilAction_store (c : Chan) : (s.coilAction c).store = s.store := by
  unfold State.coilAction
  split <;> rfl

theorem pulseStart_store (c : Chan) : (s.pulseStart c).store = s.store := by
  unfold State.pulseStart
  split <;> rfl

theorem complete_store (c : Chan) : (s.complete c).store = s.store := by
  unfold State.complete
  dsimp only
  repeat' split
  all_goals rfl

theorem enterRun_store : s.enterRun.store = s.store := by
  rw [State.enterRun, State.reconcileAll, forEach_store fun s c => (reconcile_onChannels s c).same.store,
    State.raiseSystem_store, State.setSupply_store]

/-! ### The Time Base and the Line Monitor -/

theorem secondBoundary_store : s.secondBoundary.store = s.store := by
  cases hd : s.secondDue with
  | false => rw [State.secondBoundary, hd]; rfl
  | true => exact (secondBoundary_raised hd).store

theorem stopCrystal_store : s.stopCrystal.store = s.store := by
  unfold State.stopCrystal
  dsimp only
  split
  · rfl
  · split
    · exact (makeDoubtful_raised _).store
    · rfl

theorem runCrystal_store : s.runCrystal.store = s.store := by
  unfold State.runCrystal
  split <;> rfl

theorem loseLine_store : s.loseLine.store = s.store :=
  (judgeSource_store _).trans (updateLine_raised s _).store

theorem risingCrossing_store : s.risingCrossing.store = s.store := by
  unfold State.risingCrossing
  split
  · have hjudged : (s.updateLine (s.line.rise s.cycles s.time.crystalRunning)).judgeSource.store = s.store :=
      (judgeSource_store _).trans (updateLine_raised s _).store
    rw [← hjudged]
    generalize (s.updateLine (s.line.rise s.cycles s.time.crystalRunning)).judgeSource = u
    dsimp only
    split
    · rw [switchingSlot_store]
      split <;> rfl
    · rfl
  · rfl

theorem fallingCrossing_store : s.fallingCrossing.store = s.store := by
  unfold State.fallingCrossing
  dsimp only
  split
  · split
    · exact switchingSlot_store _
    · rfl
  · rfl

theorem absenceTimeout_store : s.absenceTimeout.store = s.store := by
  unfold State.absenceTimeout
  split
  · exact loseLine_store s
  · rfl

/-! ### The minute ticks and the light -/

theorem takeMinuteTick_store : s.takeMinuteTick.store = s.store := by
  unfold State.takeMinuteTick
  split
  · exact (minuteEvaluation_same _).store
  · rfl

theorem takeClaimTick_store : s.takeClaimTick.store = s.store := by
  unfold State.takeClaimTick
  split
  · exact (countdownOverrides_same _).store
  · rfl

theorem luxSample_store (v : Nat) : (s.luxSample v).store = s.store := by
  unfold State.luxSample
  split
  · split
    · exact (updateLight_raised s _).store
    · exact (lightEvent_same _ _).store.trans (updateLight_raised s _).store
  · rfl

/-! ### The Button Unit -/

theorem shortPress_store (b : ButtonNo) : (s.shortPress b).store = s.store := by
  unfold State.shortPress
  dsimp only
  split
  · exact (reportHeld_raised s _).store
  · exact (pass_same (fun s c => putOverride_same s c _ _ _) _ _).store.trans (reportHeld_raised s _).store

theorem longPressAction_store (b : ButtonNo) : (s.longPressAction b).store = s.store := by
  unfold State.longPressAction
  dsimp only
  split
  · exact (reportHeld_raised s _).store
  · exact (pass_same dropOverride_same _ _).store.trans (reportHeld_raised s _).store

theorem releaseConfirm_store (b : ButtonNo) : (s.releaseConfirm b).store = s.store := by
  unfold State.releaseConfirm
  split
  · split
    · split
      · exact shortPress_store s b
      · rfl
    · rfl
  · rfl

theorem longPress_store (b : ButtonNo) : (s.longPress b).store = s.store := by
  unfold State.longPress
  split
  · exact longPressAction_store s b
  · rfl

theorem inputLow_store (b : ButtonNo) : (s.inputLow b).store = s.store := by
  unfold State.inputLow
  dsimp only
  split
  · rfl
  · rw [← releaseConfirm_store s b]
    generalize s.releaseConfirm b = u
    repeat' split
    all_goals simp [State.setPress, longPressAction_store]

theorem inputHigh_store (b : ButtonNo) : (s.inputHigh b).store = s.store := by
  unfold State.inputHigh
  dsimp only
  repeat' split
  all_goals rfl

theorem debounceExpiry_store (b : ButtonNo) : (s.debounceExpiry b).store = s.store := by
  unfold State.debounceExpiry
  repeat' split
  all_goals rfl

/-! ### The supply -/

theorem countdownSecond_store : s.countdownSecond.store = s.store := by
  unfold State.countdownSecond
  split <;> rfl

theorem countdownExpiry_store : s.countdownExpiry.store = s.store := by
  unfold State.countdownExpiry
  split
  · exact enterRun_store s
  · rfl

theorem retainedLoss_store : s.retainedLoss.store = s.store := by
  unfold State.retainedLoss
  split <;> rfl

/-! ### Commands -/

variable (p : List Byte)

theorem cmdConfigureChannel_store : Answers (·.store = s.store) (cmdConfigureChannel p s) := by
  refine answers_check ?_
  split
  · exact answers_error
  · next hi => exact answers_ok (configureItem_store hi)

theorem cmdSetStagger_store : Answers (·.store = s.store) (cmdSetStagger p s) := by
  unfold cmdSetStagger
  split
  · exact answers_check (answers_ok rfl)
  · exact answers_error

theorem cmdConfigureButton_store : Answers (·.store = s.store) (cmdConfigureButton p s) := by
  refine answers_check ?_
  split
  · exact answers_error
  · next hi => exact answers_ok (buttonItem_store hi)

theorem cmdSetLightLimits_store : Answers (·.store = s.store) (cmdSetLightLimits p s) := by
  refine answers_check ?_
  split
  · exact answers_error
  · next hi => exact answers_ok (lightLimitsItem_store hi)

theorem cmdSetTime_store : Answers (·.store = s.store) (cmdSetTime p s) := by
  unfold cmdSetTime
  split
  · split
    · exact answers_error
    · next t ht =>
      refine answers_check (answers_ok ?_)
      rw [takeTime_eq]
      refine (setTimeSchedule_same _).store.trans ?_
      rw [State.dated, (calendarDayWork_same _).store]
      obtain h | h := settime_cases s t <;> rw [h] <;> rfl
  · exact answers_error

theorem cmdSetTimeSource_store : Answers (·.store = s.store) (cmdSetTimeSource p s) := by
  unfold cmdSetTimeSource
  split
  · exact answers_error
  · next hi => exact answers_ok (timeSourceItem_store hi)

theorem cmdSetLineConfirm_store : Answers (·.store = s.store) (cmdSetLineConfirm p s) := by
  unfold cmdSetLineConfirm
  split
  · exact answers_error
  · next hi => exact answers_ok (lineConfirmItem_store hi)

theorem cmdSetSupply_store : Answers (·.store = s.store) (cmdSetSupply p s) := by
  unfold cmdSetSupply
  split
  · exact answers_ok rfl
  · exact answers_error

theorem cmdReadChanges_store : Answers (·.store = s.store) (cmdReadChanges p s) := by
  unfold cmdReadChanges
  split
  · exact answers_check (answers_ok rfl)
  · exact answers_error

theorem cmdSetNoticeMask_store : Answers (·.store = s.store) (cmdSetNoticeMask p s) := by
  unfold cmdSetNoticeMask
  split
  · exact answers_check (answers_ok rfl)
  · exact answers_error

end

end Sys2Proof.Machine
end

/-! No bit of the default program store ever returns to 1 (R154 to R157): the changes under which bits only fall, every step as one of
them, and the byte in progress when the supply falls. -/

section
namespace Sys2Proof.Machine

/-! ## Changes under which no bit returns to 1 (R155) -/

/-- The bytes of a PROGRAM_STORE lie inside the array, and at least one is still to come (R156). -/
structure Programming.Fits (pr : Programming) : Prop where
  more : pr.done < pr.values.length
  inside : pr.offset + pr.values.length ≤ Config.storeBytes

/-- The change from one state to another keeps the store's form, and brings no bit of the array back to 1. -/
structure State.OnlyFalls (s t : State) : Prop where
  ok : s.StoreOk → t.StoreOk
  falls : s.StoreOk → ∀ k, readCell t.store.array k &&& readCell s.store.array k = readCell t.store.array k

theorem State.StoreOk.fits {s : State} (h : s.StoreOk) {pr : Programming} (hp : s.store.programming = some pr) : pr.Fits :=
  ⟨(h.inside pr hp).1, (h.inside pr hp).2⟩

theorem Programming.Fits.next {pr : Programming} (h : pr.Fits) (hm : ¬ pr.values.length ≤ pr.done + 1) :
    ({ pr with done := pr.done + 1 } : Programming).Fits := ⟨Nat.not_le.mp hm, h.inside⟩

section
variable {s t u : State}

/-- The array stands, and what is in progress fits. -/
theorem State.OnlyFalls.of_array (ha : t.store.array = s.store.array)
    (hp : s.StoreOk → ∀ pr, t.store.programming = some pr → pr.Fits) : s.OnlyFalls t where
  ok h := ⟨by rw [ha]; exact h.form, fun pr hpr => ⟨(hp h pr hpr).more, (hp h pr hpr).inside⟩⟩
  falls _ k := by rw [ha, BitVec.and_self]

theorem State.OnlyFalls.of_standing (ha : t.store.array = s.store.array)
    (hp : t.store.programming = s.store.programming) : s.OnlyFalls t := .of_array ha fun h _ hpr => h.fits (hp ▸ hpr)

theorem State.OnlyFalls.of_store (h : t.store = s.store) : s.OnlyFalls t := .of_standing (by rw [h]) (by rw [h])

/-- The array stands, and no PROGRAM_STORE is in progress any more. -/
theorem State.OnlyFalls.of_idle (ha : t.store.array = s.store.array) (hp : t.store.programming = none) : s.OnlyFalls t :=
  .of_array ha fun _ _ hpr => by rw [hp] at hpr; cases hpr

theorem State.OnlyFalls.refl (s : State) : s.OnlyFalls s := .of_store rfl

theorem State.OnlyFalls.trans (h : s.OnlyFalls t) (k : t.OnlyFalls u) : s.OnlyFalls u where
  ok hs := k.ok (h.ok hs)
  falls hs n := by
    have hst := h.falls hs n
    have htu := k.falls (h.ok hs) n
    rw [← htu, BitVec.and_assoc, hst]

end

section
variable {s : State} {pr : Programming}

/-- The byte in flight takes its old value ANDed with the new one, and every other byte stands (R155). -/
theorem readCell_burn (h : s.StoreOk) (k : Nat) :
    readCell (pr.burn s.store.array) k = if k = pr.offset + pr.done then
      readCell s.store.array k &&& pr.values.getD pr.done Config.erasedByte else readCell s.store.array k := by
  rw [Programming.burn, readCell_programCell h.form]
  by_cases hk : k = pr.offset + pr.done
  · rw [if_pos hk, if_pos hk.symm, hk]
  · rw [if_neg hk, if_neg (Ne.symm hk)]

theorem burn_onlyFalls (hp : s.store.programming = some pr) : s.OnlyFalls (s.setArray (pr.burn s.store.array)) where
  ok h := by
    have hfits := h.fits hp
    have hplace : pr.offset + pr.done < Config.storeBytes :=
      Nat.lt_of_lt_of_le (Nat.add_lt_add_left hfits.more _) hfits.inside
    exact ⟨arrayForm_programCell hplace h.form, h.inside⟩
  falls h k := by
    have hread : readCell (s.setArray (pr.burn s.store.array)).store.array k = _ := readCell_burn h k
    rw [hread]
    split
    · rw [BitVec.and_assoc, BitVec.and_comm (pr.values.getD _ _), ← BitVec.and_assoc, BitVec.and_self]
    · exact BitVec.and_self

end

/-! ## The store's part in resets, the supply and loads -/

section
variable (s : State)

theorem portReset_onlyFalls : s.OnlyFalls s.portReset := by
  unfold State.portReset
  split
  · exact .refl s
  · refine .of_array rfl fun h x hx => ?_
    obtain ⟨pr, hpr, rfl⟩ := Option.map_eq_some_iff.mp hx
    exact ⟨(h.fits hpr).more, (h.fits hpr).inside⟩

/-! ### The loss of the supply (R144, R157) -/

/-- The blocks that take the entry to BACKUP behind the store leave it as it stands. -/
theorem backup_blocks_store : (s.abandonAll.loseLine.darkenLight.forEach allButtons State.releaseButton).store = s.store := by
  obtain ⟨-, -, -, -, -, _, _, _, _, h⟩ := backup_blocks s
  exact h ▸ rfl

theorem portLost_store : s.portLost.store = { s.store with load := s.loadInterrupted } := by
  rw [State.portLost, interruptLoad_eq]
  rfl

theorem cutProgramming_onlyFalls : s.OnlyFalls s.cutProgramming := by
  unfold State.cutProgramming
  split
  · exact .refl s
  · next pr hp =>
    cases Config.backupByteProgrammed s.freeIndex with
    | false => exact .of_idle rfl rfl
    | true => exact (burn_onlyFalls hp).trans (.of_idle rfl rfl)

theorem enterBackup_onlyFalls : s.OnlyFalls s.enterBackup := by
  by_cases hup : s.supply.state = .backup
  · rw [State.enterBackup, if_pos hup]
    exact .refl s
  · rw [enterBackup_eq hup]
    have hlost := portLost_store s
    have hport : s.OnlyFalls s.portLost := .of_standing (by rw [hlost]) (by rw [hlost])
    exact (hport.trans (cutProgramming_onlyFalls _)).trans (.of_store (backup_blocks_store _))

/-! ### Loads (R159 to R162) -/

theorem setLoad_onlyFalls (l : LoadRecord) : s.OnlyFalls (s.setLoad l) := .of_standing rfl rfl

theorem endLoad_onlyFalls (l : LoadRecord) : s.OnlyFalls (s.endLoad l) := .of_standing rfl rfl

theorem retired_onlyFalls (src : LoadSource) : s.OnlyFalls (s.retired src) :=
  ((setLoad_onlyFalls s _).trans (.of_store (retirePhase_same _).store)).trans (setLoad_onlyFalls _ _)

theorem startLoad_onlyFalls (src : LoadSource) : s.OnlyFalls (s.startLoad src) := by
  cases ht : headerTests s.store.array with
  | some r => rw [startLoad_of_bad src ht]; exact endLoad_onlyFalls s _
  | none =>
    rw [startLoad_of_good src ht]
    split
    · exact (retired_onlyFalls s src).trans (endLoad_onlyFalls _ _)
    · exact retired_onlyFalls s src

theorem takeItem_onlyFalls (n : NextItem) : s.OnlyFalls (s.takeItem n) := by
  unfold State.takeItem
  dsimp only
  split
  · next hv => exact (State.OnlyFalls.of_store (applyItem_store hv)).trans (setLoad_onlyFalls _ _)
  · exact setLoad_onlyFalls s _

theorem loadStep_onlyFalls : s.OnlyFalls s.loadStep := by
  cases hd : s.loadStepDue with
  | none => rw [loadStep_of_none hd]; exact .refl s
  | some n =>
    rw [loadStep_of_due hd]
    split
    · exact (takeItem_onlyFalls s n).trans (endLoad_onlyFalls _ _)
    · exact takeItem_onlyFalls s n

/-! ### The return of the supply (R143, R145 to R147) -/

/-- A cold start leaves the array as it stands, with nothing in progress (R146, R154). -/
theorem restored_onlyFalls : s.OnlyFalls s.restored := by
  cases hv : s.supply.signatureValid with
  | true => rw [restored_of_valid hv]; exact .of_store rfl
  | false => rw [restored_of_invalid hv]; exact .of_idle rfl rfl

theorem enterRestoring_onlyFalls : s.OnlyFalls s.enterRestoring := by
  have hload : s.OnlyFalls s.restoredLoading := by
    unfold State.restoredLoading
    split
    · exact (restored_onlyFalls s).trans (startLoad_onlyFalls _ .restore)
    · exact restored_onlyFalls s
  rw [enterRestoring_eq]
  split
  · exact hload.trans (.of_store (enterRun_store _))
  · exact hload

theorem powerUpValues_onlyFalls (b : Bool) : s.OnlyFalls (s.powerUpValues b) := .of_idle rfl rfl

theorem mainsReturn_onlyFalls : s.OnlyFalls s.mainsReturn := by
  unfold State.mainsReturn
  split
  · split
    · exact (powerUpValues_onlyFalls s _).trans (enterRestoring_onlyFalls _)
    · exact enterRestoring_onlyFalls s
  · exact .refl s

theorem powerUp_onlyFalls (a b : Bool) : s.OnlyFalls (s.powerUp a b) := by
  unfold State.powerUp
  dsimp only
  split
  · split
    · exact (powerUpValues_onlyFalls s b).trans (enterRestoring_onlyFalls _)
    · exact powerUpValues_onlyFalls s b
  · exact .refl s

end

/-! ## Commands -/

theorem runCommand_onlyFalls (cmd : Byte) (p : List Byte) (s : State) : Answers s.OnlyFalls (runCommand cmd p s) := by
  have hread {a : Answer} (ha : Answers (· = s) a) : Answers s.OnlyFalls a := answers_mono ha fun t h => h ▸ .refl t
  have hsame {a : Answer} (ha : ∀ {t q}, a = .ok (t, q) → s.SameElsewhere t) : Answers s.OnlyFalls a :=
    fun _ _ h => .of_store (ha h).store
  have hstand {a : Answer} (ha : Answers (·.store = s.store) a) : Answers s.OnlyFalls a := answers_mono ha fun _ => .of_store
  unfold runCommand
  split
  · exact hsame cmdCreateEntry_same
  · exact hread (cmdReadEntry_reads p s)
  · exact hsame cmdModifyEntry_same
  · exact hsame cmdSuspendEntry_same
  · exact hsame cmdResumeEntry_same
  · exact hsame cmdRetireEntry_same
  · exact hsame cmdStartEntry_same
  · exact hsame cmdEndEntry_same
  · exact hread (cmdFindEntries_reads p s)
  · exact hsame cmdClearAll_same
  · exact hsame cmdAddException_same
  · exact hsame cmdRemoveException_same
  · exact hread (cmdListExceptions_reads p s)
  · exact hread (cmdDayClass_reads p s)
  · exact hsame cmdOverride_same
  · exact hsame cmdClearOverride_same
  · exact hsame cmdHold_same
  · exact hsame cmdReleaseHold_same
  · exact hread (cmdReadChannel_reads p s)
  · exact hstand (cmdConfigureChannel_store s p)
  · exact hstand (cmdSetStagger_store s p)
  · exact hstand (cmdConfigureButton_store s p)
  · exact hread (cmdReadButton_reads p s)
  · exact hstand (cmdSetLightLimits_store s p)
  · exact hread (cmdReadLight_reads p s)
  · exact hstand (cmdSetTime_store s p)
  · exact hread (cmdReadTime_reads p s)
  · exact hstand (cmdSetTimeSource_store s p)
  · exact hstand (cmdSetLineConfirm_store s p)
  · exact hread (cmdReadLine_reads p s)
  · exact hstand (cmdSetSupply_store s p)
  · exact hread (cmdReadSupply_reads p s)
  · exact hread (cmdReadStore_reads p s)
  · exact answers_check (answers_check (answers_ok (startLoad_onlyFalls s .host)))
  · exact hread (cmdLoadStatus_reads p s)
  · exact hstand (cmdReadChanges_store s p)
  · exact hstand (cmdSetNoticeMask_store s p)
  · exact hread (cmdIdentify_reads p s)
  · exact answers_error

theorem rangeOk_iff (offset count most : Nat) : rangeOk offset count most = true ↔
    1 ≤ count ∧ count ≤ most ∧ offset < Config.storeBytes ∧ offset + count ≤ Config.storeBytes := by
  simp [rangeOk, and_assoc]

/-- A PROGRAM_STORE that is taken has bytes to program, all of them inside the array (R156). -/
theorem cmdProgramStore_onlyFalls {p : List Byte} {tag : Byte} {s t : State} (h : cmdProgramStore p tag s = .ok t) :
    s.OnlyFalls t := by
  unfold cmdProgramStore at h
  repeat' split at h
  all_goals cases h
  next hlength hrange =>
    obtain ⟨hone, -, -, hinside⟩ := (rangeOk_iff ..).mp hrange
    rw [← not_not.mp hlength] at hone hinside
    exact .of_array rfl fun _ _ hpr => by cases hpr; exact ⟨hone, hinside⟩

/-- No work of the port brings a bit of the array back, since no command does. -/
theorem onlyFalls_portRelation : PortRelation State.OnlyFalls where
  refl := .refl
  trans := .trans
  port _ _ := .of_store rfl
  command := runCommand_onlyFalls
  program := cmdProgramStore_onlyFalls

/-! ## The end of a programming millisecond (R155) -/

theorem programDue_some {s : State} {pr : Programming} (h : s.programDue = some pr) : s.store.programming = some pr := by
  unfold State.programDue at h
  split at h
  · next hp =>
    split at h
    · rw [hp, h]
    · cases h
  · cases h

theorem programByteDone_onlyFalls (s : State) : s.OnlyFalls s.programByteDone := by
  have hR := onlyFalls_portRelation
  unfold State.programByteDone
  cases hd : s.programDue with
  | none => exact .refl s
  | some pr =>
    have hp := programDue_some hd
    refine (burn_onlyFalls hp).trans ?_
    have hburnt : (s.setArray (pr.burn s.store.array)).store.programming = some pr := hp
    dsimp only
    generalize s.setArray (pr.burn s.store.array) = u at hburnt ⊢
    split
    · exact .trans (t := u.freeExecutor) (.of_idle rfl rfl) (hR.executor _)
    · split
      · exact .trans (t := u.freeExecutor.pushReply _) (.of_idle rfl rfl) (hR.executor _)
      · next hm =>
        refine .of_array rfl fun h x hx => ?_
        cases hx
        exact (h.fits hburnt).next hm

/-! ## A step -/

theorem exec_onlyFalls {x : Instr} {s t : State} (hx : exec x s = .next t) : s.OnlyFalls t := by
  have hR := onlyFalls_portRelation
  have hrow {cmd tag : Byte} {p : List Byte} (he : (.next (s.submit cmd tag p) : Effect) = .next t) : s.OnlyFalls t := by
    cases he; exact hR.submit s cmd tag p
  have hevent {dt : Nat} {f : State → State} (hf : ∀ u : State, u.OnlyFalls (f u))
      (he : (.next (f (s.elapse dt)) : Effect) = .next t) : s.OnlyFalls t := by
    cases he; exact (State.OnlyFalls.of_store (elapse_store s dt)).trans (hf _)
  have hstand {dt : Nat} {f : State → State} (hf : ∀ u : State, (f u).store = u.store)
      (he : (.next (f (s.elapse dt)) : Effect) = .next t) : s.OnlyFalls t := hevent (fun u => .of_store (hf u)) he
  cases x with
  | transactionStart dt => exact hevent hR.startTransaction hx
  | statusByteShifted dt => exact hevent hR.statusShifted hx
  | replyLatch dt => exact hevent hR.latchReply hx
  | requestFrame dt bytes n => exact hevent (fun u => hR.endRequest u bytes n) hx
  | replyReadEnd dt n => exact hevent (fun u => hR.endRead u n) hx
  | portReset dt => exact hevent portReset_onlyFalls hx
  | portResetRelease dt => exact hevent hR.portRelease hx
  | programByteDone dt => exact hevent programByteDone_onlyFalls hx
  | enterBackup dt => exact hevent enterBackup_onlyFalls hx
  | mainsReturn dt => exact hevent mainsReturn_onlyFalls hx
  | restoreCountdownExpiry dt => exact hstand countdownExpiry_store hx
  | retainedSupplyLoss dt => exact hstand retainedLoss_store hx
  | powerUp a b => cases hx; exact powerUp_onlyFalls s a b
  | secondBoundary dt => exact hstand secondBoundary_store hx
  | minuteEvaluation dt => exact hstand takeMinuteTick_store hx
  | overrideCountdown dt => exact hstand takeClaimTick_store hx
  | risingCrossing dt => exact hstand risingCrossing_store hx
  | fallingCrossing dt => exact hstand fallingCrossing_store hx
  | absenceTimeout dt => exact hstand absenceTimeout_store hx
  | crystalStop dt => exact hstand stopCrystal_store hx
  | crystalRun dt => exact hstand runCrystal_store hx
  | crystalTick dt => exact hstand crystalTick_store hx
  | coilAction dt c => exact hstand (fun u => coilAction_store u c) hx
  | pulseStart dt c => exact hstand (fun u => pulseStart_store u c) hx
  | operationComplete dt c => exact hstand (fun u => complete_store u c) hx
  | buttonInputLow dt b => exact hstand (fun u => inputLow_store u b) hx
  | buttonInputHigh dt b => exact hstand (fun u => inputHigh_store u b) hx
  | buttonDebounceExpiry dt b => exact hstand (fun u => debounceExpiry_store u b) hx
  | buttonReleaseConfirm dt b => exact hstand (fun u => releaseConfirm_store u b) hx
  | longPress dt b => exact hstand (fun u => longPress_store u b) hx
  | luxSample dt v => exact hstand (fun u => luxSample_store u _) hx
  | loadStep dt => exact hevent loadStep_onlyFalls hx
  | restoreCountdownSecond dt => exact hstand countdownSecond_store hx
  | _ => exact hrow hx

theorem step_onlyFalls {s t : State} (hs : step s = .next t) : s.OnlyFalls t :=
  onlyFalls_portRelation.step (fun _ _ => .of_store rfl) (fun s dt => .of_store (elapse_store s dt)) exec_onlyFalls hs

/-- Settles O15: every step is a change under which bits only fall. -/
theorem storeBitsOnlyFall : Obligations.StoreBitsOnlyFall :=
  fun _ _ h hs => ⟨(step_onlyFalls hs).ok h, (step_onlyFalls hs).falls h⟩

/-! ## The byte in progress when the supply falls (R157) -/

/-- The array once the supply has fallen: the byte in flight programmed or not, as the free value says (R157; log 1). -/
theorem enterBackup_array {s : State} {pr : Programming} (hup : s.supply.state ≠ .backup)
    (hp : s.store.programming = some pr) : ∃ programmed : Bool,
    s.enterBackup.store.array = if programmed then pr.burn s.store.array else s.store.array := by
  have hlost := portLost_store s
  have hpr : s.portLost.store.programming = some pr := by rw [hlost]; exact hp
  have harray : s.portLost.store.array = s.store.array := by rw [hlost]
  refine ⟨Config.backupByteProgrammed s.portLost.freeIndex, ?_⟩
  rw [enterBackup_eq hup, backup_blocks_store, State.supplyLost, State.cutProgramming, hpr, ← harray]
  rfl

/-- Settles O51: the array for each of the free value's two answers. -/
theorem backupLeavesOldOrProgrammedByte : Obligations.BackupLeavesOldOrProgrammedByte := by
  intro s t dt pr u hup hok hp hexec
  have ht : t = u.enterBackup := by cases hexec; rfl
  obtain ⟨programmed, harray⟩ := enterBackup_array hup hp
  rw [ht, harray]
  cases programmed with
  | false => exact ⟨fun _ _ => rfl, .inl rfl⟩
  | true => exact ⟨fun k hk => (readCell_burn hok k).trans (if_neg hk), .inr ((readCell_burn hok _).trans (if_pos rfl))⟩

end Sys2Proof.Machine
end

/-! The commands of the default program store: the refusals BUSY while a load runs (R163), READ_STORE (R158) and PROGRAM_STORE with the
ends of its programming milliseconds (R155, R156, R177). -/

section
namespace Sys2Proof.Machine

/-! ## PROGRAM_STORE on a ready port (R156, R176, R177) -/

section
variable {s t : State} {tag : Byte} {p : List Byte} {r : Result}

theorem exec_programStore_refused (h : s.Ready) (hp : p.length ≤ Config.maxParams)
    (hc : cmdProgramStore p tag s = .error r) : exec (.programStore tag p) s = .next (s.refusedWith 0x69 tag r) := by
  refine congrArg Host.Outcome.next ((submit_ready h 0x69 tag hp).trans ?_)
  rw [State.execute, if_pos rfl, hc]
  rfl

/-- A PROGRAM_STORE that is taken holds the executor, and no reply is queued yet (R177). -/
theorem exec_programStore_taken (h : s.Ready) (hp : p.length ≤ Config.maxParams)
    (hc : cmdProgramStore p tag s = .ok t) : exec (.programStore tag p) s = .next t := by
  refine congrArg Host.Outcome.next ((submit_ready h 0x69 tag hp).trans ?_)
  rw [State.execute, if_pos rfl, hc]

end

/-! ## While a load runs (R163) -/

theorem cmdProgramStore_of_running {s : State} (h : s.loadRunning = true) (p : List Byte) (tag : Byte) :
    cmdProgramStore p tag s = .error .busy := if_pos h

/-- A command that asks first whether a load runs is refused BUSY while one does. -/
theorem submit_busy {s : State} {cmd tag : Byte} {p : List Byte} {go : Answer} (h : s.Ready) (hl : s.loadRunning = true)
    (hp : p.length ≤ Config.maxParams) (hc : cmd ≠ 0x69) (hr : runCommand cmd p s = check (!s.loadRunning) .busy go) :
    s.submit cmd tag p = s.refusedWith cmd tag .busy :=
  submit_refused h hp hc (by rw [hr, hl, Bool.not_true, check_false])

/-- Settles O9: each command of R163's left column asks first whether a load runs. -/
theorem busyDuringLoad : Obligations.BusyDuringLoad := by
  intro s tag p h hl hp
  have hbusy {i : Instr} {cmd : Byte} {q : List Byte} {go : Answer} (hi : exec i s = .next (s.submit cmd tag q))
      (hq : q.length ≤ Config.maxParams) (hc : cmd ≠ 0x69) (hr : runCommand cmd q s = check (!s.loadRunning) .busy go) :
      exec i s = .next (s.refusedWith cmd tag .busy) := hi.trans (congrArg _ (submit_busy h hl hq hc hr))
  have hload : runCommand 0x6A [] s = check (!s.loadRunning) .busy (.ok (s.startLoad .host, [])) := rfl
  exact ⟨hbusy rfl hp (by decide) rfl, hbusy rfl hp (by decide) rfl, hbusy rfl hp (by decide) rfl, hbusy rfl hp (by decide) rfl,
    hbusy rfl hp (by decide) rfl, hbusy rfl hp (by decide) rfl, hbusy rfl hp (by decide) rfl, hbusy rfl hp (by decide) rfl,
    hbusy rfl hp (by decide) rfl, hbusy rfl hp (by decide) rfl, hbusy rfl hp (by decide) rfl, hbusy rfl hp (by decide) rfl,
    hbusy rfl hp (by decide) rfl, exec_programStore_refused h hp (cmdProgramStore_of_running hl p tag),
    hbusy rfl (Nat.zero_le _) (by decide) hload⟩

/-! ## Ranges of the array -/

theorem ne_zero_iff_one_le_toNat {n : Byte} : n ≠ 0 ↔ 1 ≤ n.toNat := by
  rw [Nat.one_le_iff_ne_zero]
  exact ⟨fun h he => h (BitVec.eq_of_toNat_eq he), fun h he => h (by rw [he]; rfl)⟩

theorem rangeOk_of_outside {offset most : Nat} {n : Byte}
    (h : n = 0 ∨ most < n.toNat ∨ 2047 < offset ∨ 2048 < offset + n.toNat) : rangeOk offset n.toNat most = false := by
  rw [← Bool.not_eq_true, rangeOk_iff]
  rintro ⟨hone, hmost, hoffset, hend⟩
  have hn := ne_zero_iff_one_le_toNat.mpr hone
  simp only [Config.storeBytes] at hoffset hend
  rcases h with h | h | h | h
  · exact hn h
  all_goals omega

theorem rangeOk_of_inside {offset most : Nat} {n : Byte} (hn : n ≠ 0) (hmost : n.toNat ≤ most)
    (hend : offset + n.toNat ≤ 2048) : rangeOk offset n.toNat most = true := by
  have hone := ne_zero_iff_one_le_toNat.mp hn
  exact (rangeOk_iff ..).mpr ⟨hone, hmost, by simp only [Config.storeBytes]; omega, hend⟩

/-! ## READ_STORE (R158) -/

theorem cmdReadStore_of_length {p : List Byte} (h : p.length ≠ 3) (s : State) : cmdReadStore p s = .error .badLength := by
  unfold cmdReadStore
  split
  · exact absurd rfl h
  · rfl

theorem cmdReadStore_eq (o1 o0 n : Byte) (s : State) : cmdReadStore [o1, o0, n] s =
    check (rangeOk (natOf o1 o0) n.toNat 64) .badField
      (.ok (s, [o1, o0, n] ++ readCells s.store.array (natOf o1 o0) n.toNat)) := by
  rw [cmdReadStore, twoBytes_natOf]
  rfl

/-- Settles O54: by the length, then by the range. -/
theorem readStoreReturnsBytes : Obligations.ReadStoreReturnsBytes := by
  intro s tag o1 o0 n p h hp
  have hthree : [o1, o0, n].length ≤ Config.maxParams := by simp [Config.maxParams]
  have hrun : runCommand 0x68 [o1, o0, n] s = _ := cmdReadStore_eq o1 o0 n s
  refine ⟨fun hne => ?_, fun hout => ?_, fun hn hmost hend => ?_⟩
  · exact congrArg Host.Outcome.next (submit_refused h hp (by decide) (cmdReadStore_of_length hne s))
  · rw [rangeOk_of_outside hout, check_false] at hrun
    exact congrArg Host.Outcome.next (submit_refused h hthree (by decide) hrun)
  · rw [rangeOk_of_inside hn hmost hend, check_true] at hrun
    exact congrArg Host.Outcome.next (submit_replied h hthree (by decide) (by decide) hrun)

/-! ## PROGRAM_STORE at its take (R156) -/

theorem cmdProgramStore_eq {s : State} (h : s.loadRunning = false) (o1 o0 n : Byte) (values : List Byte) (tag : Byte) :
    cmdProgramStore (o1 :: o0 :: n :: values) tag s =
      if values.length ≠ n.toNat then .error .badLength
      else if rangeOk (natOf o1 o0) n.toNat 32 then
        .ok ((s.setProgramming (some ⟨natOf o1 o0, values, 0, tag, s.osc, false⟩)).setPort { s.port with executorBusy := true })
      else .error .badField := if_neg (Bool.eq_false_iff.mp h)

/-! ## The reply at the completion (R156, R190) -/

section
variable {pr : Programming} {array : List Host.Cell}

theorem report_of_match (h : pr.mismatches array = []) :
    pr.report array = ⟨pr.tag, 0x69, .ok, twoBytes pr.offset ++ [byteOf pr.values.length]⟩ := by
  simp only [Programming.report, h]

theorem report_of_mismatch {k : Nat} {ks : List Nat} (h : pr.mismatches array = k :: ks) :
    pr.report array = ⟨pr.tag, 0x69, .mismatch,
      twoBytes pr.offset ++ [byteOf pr.values.length] ++ [byteOf (k :: ks).length] ++ twoBytes (pr.offset + k)⟩ := by
  simp only [Programming.report, h, List.length_cons]

end

/-! ## The end of a programming millisecond (R155 to R157, R177) -/

/-- The executor's test on an empty request queue takes nothing. -/
theorem executor_of_empty {s : State} (h : s.port.requests = []) : s.executor = s := by
  rw [State.executor, h]
  rfl

section
variable {s : State} {pr : Programming}

theorem programDue_of_due (hp : s.store.programming = some pr) (hd : 4096 * (pr.done + 1) ≤ 125 * (s.osc - pr.startedAt)) :
    s.programDue = some pr := by
  have hdue : pr.byteDue s.osc = true := decide_eq_true hd
  simp only [State.programDue, hp, hdue, if_true]

/-- A byte that is not the last: the next one begins. -/
theorem programByteDone_of_more (hd : s.programDue = some pr) (ha : pr.abandoned = false)
    (hm : pr.done + 1 < pr.values.length) : s.programByteDone =
      (s.setArray (pr.burn s.store.array)).setProgramming (some { pr with done := pr.done + 1 }) := by
  simp only [State.programByteDone, hd, ha, Nat.not_le.mpr hm, Bool.false_eq_true, if_false]

/-- The last byte: the executor is IDLE and the reply queued (R156, R177). -/
theorem programByteDone_of_last (hd : s.programDue = some pr) (ha : pr.abandoned = false)
    (hm : pr.done + 1 = pr.values.length) (he : s.port.requests = []) : s.programByteDone =
      (s.setArray (pr.burn s.store.array)).freeExecutor.pushReply (pr.report (pr.burn s.store.array)) := by
  simp only [State.programByteDone, hd, ha, Nat.le_of_eq hm.symm, Bool.false_eq_true, if_false, if_true]
  exact executor_of_empty he

/-- The byte in flight of an abandoned command: the executor is IDLE without a reply (R157, R178). -/
theorem programByteDone_of_abandoned (hd : s.programDue = some pr) (ha : pr.abandoned = true)
    (he : s.port.requests = []) : s.programByteDone = (s.setArray (pr.burn s.store.array)).freeExecutor := by
  simp only [State.programByteDone, hd, ha, if_true]
  exact executor_of_empty he

end

/-- Settles O55: the take by length and range, the end of a millisecond by what is left to do. -/
theorem programStoreBurnsBytes : Obligations.ProgramStoreBurnsBytes := by
  refine ⟨fun s tag o1 o0 n values h hl hv => ?_, fun s dt pr => ?_⟩
  · have hp : (o1 :: o0 :: n :: values).length ≤ Config.maxParams := by
      simp only [List.length_cons, Config.maxParams]; omega
    have hcmd := cmdProgramStore_eq hl o1 o0 n values tag
    refine ⟨fun hne => ?_, fun heq hout => ?_, fun heq hn hmost hend => ?_⟩
    · exact exec_programStore_refused h hp (hcmd.trans (if_pos hne))
    · rw [if_neg (not_not.mpr heq), rangeOk_of_outside hout, if_neg Bool.false_ne_true] at hcmd
      exact exec_programStore_refused h hp hcmd
    · rw [if_neg (not_not.mpr heq), rangeOk_of_inside hn hmost hend, if_pos rfl] at hcmd
      exact exec_programStore_taken h hp hcmd
  · intro u at_ array hok hp hd
    have hexec : exec (.programByteDone dt) s = .next u.programByteDone := rfl
    rw [hexec]
    clear_value u
    have hdue := programDue_of_due hp hd
    refine ⟨readCell_burn hok, fun ha hm => ?_, fun ha hm he => ?_, fun ha he => ?_⟩
    · rw [programByteDone_of_more hdue ha hm]; rfl
    · intro wrong head reply
      have hreport : pr.report array = reply := by
        have hwrong : pr.mismatches array = wrong := rfl
        clear_value wrong
        cases wrong with
        | nil => exact report_of_match hwrong
        | cons k ks => exact report_of_mismatch hwrong
      rw [programByteDone_of_last hdue ha hm he, ← hreport]
      rfl
    · rw [programByteDone_of_abandoned hdue ha he]; rfl

end Sys2Proof.Machine
end

/-! The events of a transaction (R168, R169, R171, R173) and of a port reset (R157, R178). -/

section
namespace Sys2Proof.Machine

/-! ## The steps of a transaction -/

section
variable {s : State} {x : Transaction} {r : Reply} {rest : List Reply} {n : Nat}

/-- An active port begins a transaction with the status byte as the port stands (R168, R169). -/
theorem startTransaction_of_active (hc : s.port.csnLow = false) (ha : s.portActive = true) : s.startTransaction =
    s.setPort { s.port with csnLow := true, transaction := some ⟨s.portStatus, none⟩ } := by
  simp only [State.startTransaction, hc, ha, Bool.false_eq_true, if_false, if_true]

theorem statusShifted_eq (ht : s.port.transaction = some x) : s.statusShifted =
    if x.status.discard then s.setPort { s.port with discard := false } else s := by
  simp only [State.statusShifted, ht]

theorem latchReply_of_reply (ht : s.port.transaction = some x) (hl : x.latched = none) (hr : s.port.replies = r :: rest) :
    s.latchReply = s.setPort { s.port with transaction := some { x with latched := some (.head r) } } := by
  obtain ⟨status, latched⟩ := x
  cases hl
  simp only [State.latchReply, ht, hr]

theorem latchReply_of_empty (ht : s.port.transaction = some x) (hl : x.latched = none) (hr : s.port.replies = []) :
    s.latchReply = s.setPort { s.port with transaction := some { x with latched := some .noReply } } := by
  obtain ⟨status, latched⟩ := x
  cases hl
  simp only [State.latchReply, ht, hr]

theorem endRead_of_transaction (ht : s.port.transaction = some x) : s.endRead n = s.raiseCsn.endReplyRead x n := by
  simp only [State.endRead, ht]

/-- A reply shifted out in full leaves the head of the queue (R173). -/
theorem endReplyRead_of_full (hl : x.latched = some (.head r)) (hn : r.payload.length + 5 ≤ n) (he : s.port.requests = []) :
    s.endReplyRead x n = s.setPort { s.port with replies := s.port.replies.tail } := by
  simp only [State.endReplyRead, hl, if_pos hn]
  exact executor_of_empty he

theorem endReplyRead_of_short (hl : x.latched = some (.head r)) (hn : n < r.payload.length + 5) :
    s.endReplyRead x n = s := by
  simp only [State.endReplyRead, hl, if_neg (Nat.not_le.mpr hn)]

/-! ## The port reset (R178) -/

theorem portReset_of_high (hp : s.port.prstnLow = false) : s.portReset =
    (s.setPort { s.port with
      prstnLow := true, requests := [], replies := [], discard := false, transaction := none }).abandonProgramming :=
  if_neg (Bool.eq_false_iff.mp hp)

theorem portRelease_of_low (hp : s.port.prstnLow = true) (he : s.port.requests = []) :
    s.portRelease = s.setPort { s.port with prstnLow := false } := (if_pos hp).trans (executor_of_empty he)

end

/-- Settles O60: each event by what the port holds when it comes. -/
theorem portEvents : Obligations.PortEvents := by
  refine ⟨fun s dt k x r rest => ?_, fun s dt => ?_⟩
  · intro u
    have hstart : exec (.transactionStart dt) s = .next u.startTransaction := rfl
    have hshifted : exec (.statusByteShifted dt) s = .next u.statusShifted := rfl
    have hlatch : exec (.replyLatch dt) s = .next u.latchReply := rfl
    have hend : exec (.replyReadEnd dt k) s = .next (u.endRead k) := rfl
    rw [hstart, hshifted, hlatch, hend]
    clear_value u
    refine ⟨fun hc ha => ?_, fun ht hd => ?_, fun ht hd => ?_, fun ht hl hr => ?_, fun ht hl hr => ?_, fun ht hl hr he => ?_⟩
    · rw [startTransaction_of_active hc ha]; rfl
    · rw [statusShifted_eq ht, if_pos hd]; rfl
    · rw [statusShifted_eq ht, if_neg (Bool.eq_false_iff.mp hd)]
    · rw [latchReply_of_reply ht hl hr]; rfl
    · rw [latchReply_of_empty ht hl hr]; rfl
    · have hraised : u.raiseCsn.port.replies.tail = rest := congrArg List.tail hr
      refine ⟨fun hk => ?_, fun hk => ?_⟩
      · rw [endRead_of_transaction ht, endReplyRead_of_full (s := u.raiseCsn) hl hk he, hraised]; rfl
      · rw [endRead_of_transaction ht, endReplyRead_of_short hl hk]; rfl
  · intro u
    have hreset : exec (.portReset dt) s = .next u.portReset := rfl
    have hrelease : exec (.portResetRelease dt) s = .next u.portRelease := rfl
    rw [hreset, hrelease]
    clear_value u
    refine ⟨fun hp => ?_, fun hp he => ?_⟩
    · rw [portReset_of_high hp]; rfl
    · rw [portRelease_of_low hp he]; rfl

end Sys2Proof.Machine
end

/-! The change set in read order (R182, R183), and what leaves the port's queues and executor as they stand while the change set keeps its
form: every operation outside the port. -/

section
namespace Sys2Proof.Machine

/-! ## The read order (R182, R183) -/

/-- The key of an item in read order: its kind, then its index. -/
def readKey (k : ChangeKind) (i : Nat) : ℕ ×ₗ ℕ := toLex (k.code, i)

theorem readBefore_iff (k k' : ChangeKind) (i i' : Nat) :
    readBefore k i k' i' = true ↔ readKey k i < readKey k' i' := by
  simp [readBefore, readKey, Prod.Lex.toLex_lt_toLex]

theorem changeKind_code_inj {k k' : ChangeKind} (h : k.code = k'.code) : k = k' := by
  cases k <;> cases k' <;> cases h <;> rfl

theorem readKey_inj {k k' : ChangeKind} {i i' : Nat} (h : readKey k i = readKey k' i') : k = k' ∧ i = i' := by
  obtain ⟨hk, hi⟩ := Prod.mk.inj (toLex.injective h)
  exact ⟨changeKind_code_inj hk, hi⟩

/-- The key of a change item. -/
def ChangeItem.key (x : ChangeItem) : ℕ ×ₗ ℕ := readKey x.kind x.index

theorem changesOk_iff (l : List ChangeItem) :
    changesOk l ↔ l.Pairwise (·.key < ·.key) ∧ ∀ x ∈ l, x.reasons ≠ 0 := by
  simp only [changesOk, readBefore_iff, ChangeItem.key]

theorem changesOk_sublist {l m : List ChangeItem} (h : changesOk l) (hm : m.Sublist l) : changesOk m :=
  ⟨h.1.sublist hm, fun x hx => h.2 x (hm.subset hx)⟩

/-- Adding reasons brings in no key but their own. -/
theorem key_mem_addReasons {k : ChangeKind} {n : Nat} {r : Word} {l : List ChangeItem} {x : ChangeItem}
    (hx : x ∈ addReasons k n r l) : x.key = readKey k n ∨ ∃ y ∈ l, x.key = y.key := by
  induction l with
  | nil => cases List.mem_singleton.mp hx; exact .inl rfl
  | cons y ys ih =>
    unfold addReasons at hx
    split at hx
    · obtain rfl | hx := List.mem_cons.mp hx
      · exact .inl rfl
      · exact .inr ⟨x, hx, rfl⟩
    · split at hx
      · obtain rfl | hx := List.mem_cons.mp hx
        · exact .inl rfl
        · exact .inr ⟨x, List.mem_cons_of_mem _ hx, rfl⟩
      · obtain rfl | hx := List.mem_cons.mp hx
        · exact .inr ⟨x, List.mem_cons_self, rfl⟩
        · exact (ih hx).imp_right fun ⟨z, hz, h⟩ => ⟨z, List.mem_cons_of_mem _ hz, h⟩

theorem or_ne_zero {a b : Word} (h : b ≠ 0) : a ||| b ≠ 0 := fun he => h (BitVec.or_eq_zero_iff.mp he).2

/-- Reasons added keep the read order, each key once, with no empty reason set (R182). -/
theorem addReasons_ok {k : ChangeKind} {n : Nat} {r : Word} (hr : r ≠ 0) {l : List ChangeItem} (h : changesOk l) :
    changesOk (addReasons k n r l) := by
  rw [changesOk_iff] at h ⊢
  induction l with
  | nil => exact ⟨List.pairwise_singleton _ _, by simpa [addReasons] using hr⟩
  | cons y ys ih =>
    obtain ⟨horder, hreasons⟩ := h
    obtain ⟨hy, hys⟩ := List.pairwise_cons.mp horder
    obtain ⟨hyr, hysr⟩ := List.forall_mem_cons.mp hreasons
    unfold addReasons
    split
    · next hb =>
      have hfirst : readKey k n < y.key := (readBefore_iff ..).mp hb
      exact ⟨horder.cons (List.forall_mem_cons.mpr ⟨hfirst, fun z hz => hfirst.trans (hy z hz)⟩),
        List.forall_mem_cons.mpr ⟨hr, hreasons⟩⟩
    · next hb =>
      split
      · next he =>
        obtain ⟨rfl, rfl⟩ := he
        exact ⟨hys.cons hy, List.forall_mem_cons.mpr ⟨or_ne_zero hr, hysr⟩⟩
      · next hne =>
        have hlater : y.key < readKey k n :=
          lt_of_le_of_ne (not_lt.mp fun hlt => hb ((readBefore_iff ..).mpr hlt)) fun he => hne (readKey_inj he)
        obtain ⟨hrest, hrestr⟩ := ih ⟨hys, hysr⟩
        refine ⟨hrest.cons fun z hz => ?_, List.forall_mem_cons.mpr ⟨hyr, hrestr⟩⟩
        obtain hz | ⟨w, hw, hz⟩ := key_mem_addReasons hz
        · rw [hz]; exact hlater
        · rw [hz]; exact hy w hw

/-! ## The port stands -/

/-- What an operation outside the port leaves: the queues, the executor, the transaction, the level of PRSTN and the PROGRAM_STORE in
progress stand, the supply has not fallen to BACKUP, and the change set keeps its form. -/
structure State.PortStands (s t : State) : Prop where
  requests : t.port.requests = s.port.requests
  replies : t.port.replies = s.port.replies
  busy : t.port.executorBusy = s.port.executorBusy
  transaction : t.port.transaction = s.port.transaction
  prstn : t.port.prstnLow = s.port.prstnLow
  programming : t.store.programming = s.store.programming
  supplied : t.supply.state = .backup → s.supply.state = .backup
  changes : changesOk s.port.changes → changesOk t.port.changes

section
variable {s t u : State}

theorem State.PortStands.of_items (hp : t.port = s.port) (hs : t.store.programming = s.store.programming)
    (hu : t.supply.state = s.supply.state) : s.PortStands t where
  requests := by rw [hp]
  replies := by rw [hp]
  busy := by rw [hp]
  transaction := by rw [hp]
  prstn := by rw [hp]
  programming := hs
  supplied h := hu ▸ h
  changes h := hp ▸ h

theorem State.PortStands.refl (s : State) : s.PortStands s := .of_items rfl rfl rfl

theorem State.PortStands.trans (h : s.PortStands t) (k : t.PortStands u) : s.PortStands u where
  requests := k.requests.trans h.requests
  replies := k.replies.trans h.replies
  busy := k.busy.trans h.busy
  transaction := k.transaction.trans h.transaction
  prstn := k.prstn.trans h.prstn
  programming := k.programming.trans h.programming
  supplied := h.supplied ∘ k.supplied
  changes := k.changes ∘ h.changes

/-- An operation behind one that leaves the port, the PROGRAM_STORE in progress and the supply state as they stand. -/
theorem State.PortStands.behind (h : t.PortStands u) (hp : t.port = s.port) (hs : t.store.programming = s.store.programming)
    (hu : t.supply.state = s.supply.state) : s.PortStands u := (State.PortStands.of_items hp hs hu).trans h

end

theorem forEach_stands {α : Type} {f : State → α → State} (hf : ∀ (s : State) (a : α), s.PortStands (f s a)) (l : List α)
    (s : State) : s.PortStands (s.forEach l f) := forEach_rel State.PortStands .refl (fun _ _ _ => .trans) l f hf s

section
variable (s : State)

theorem raise_stands (k : ChangeKind) (n : Nat) {r : Word} (hr : r ≠ 0) : s.PortStands (s.raise k n r) :=
  ⟨rfl, rfl, rfl, rfl, rfl, rfl, id, addReasons_ok hr⟩

theorem raiseEntry_stands (i : SlotNo) (r : EntryReason) : s.PortStands (s.raiseEntry i r) :=
  raise_stands s _ _ (by cases r <;> decide)

theorem raiseChannel_stands (c : Chan) (r : ChannelReason) : s.PortStands (s.raiseChannel c r) :=
  raise_stands s _ _ (by cases r <;> decide)

theorem raiseCalendar_stands (r : CalendarReason) : s.PortStands (s.raiseCalendar r) :=
  raise_stands s _ _ (by cases r <;> decide)

theorem raiseSystem_stands (r : SystemReason) : s.PortStands (s.raiseSystem r) :=
  raise_stands s _ _ (by cases r <;> decide)

theorem elapse_stands (dt : Nat) : s.PortStands (s.elapse dt) := by
  unfold State.elapse
  dsimp only
  repeat' split
  all_goals exact .of_items rfl rfl rfl

/-! ## Claims and targets (R62, R68 to R71, R87, R88) -/

theorem setChan_stands (c : Chan) (x : Channel) : s.PortStands (s.setChan c x) := .of_items rfl rfl rfl

theorem setClaims_stands (c : Chan) (l : List Claim) : s.PortStands (s.setClaims c l) := .of_items rfl rfl rfl

theorem targetArrives_stands (c : Chan) (t : Bool) : s.PortStands (s.targetArrives c t) := by
  unfold State.targetArrives
  dsimp only
  repeat' split
  all_goals exact .of_items rfl rfl rfl

theorem retarget_stands (c : Chan) : s.PortStands (s.retarget c) := by
  unfold State.retarget
  dsimp only
  split
  · exact .refl s
  · exact ((setChan_stands s c _).trans (raiseChannel_stands _ c .targetChanged)).trans (targetArrives_stands _ _ _)

theorem retargetAll_stands (cs : List Chan) : s.PortStands (s.retargetAll cs) := forEach_stands retarget_stands cs s

/-- A claim operation on some channels, with the targets computed behind it. -/
theorem pass_stands {f : State → Chan → State} (hf : ∀ (s : State) (c : Chan), s.PortStands (f s c)) (cs : List Chan) :
    s.PortStands ((s.forEach cs f).retargetAll cs) := (forEach_stands hf cs s).trans (retargetAll_stands _ cs)

theorem dropOverride_stands (c : Chan) : s.PortStands (s.dropOverride c) := by
  unfold State.dropOverride
  split
  · exact (raiseChannel_stands _ c .overrideEnded).behind rfl rfl rfl
  · exact .refl s

theorem endUntilNext_stands (c : Chan) : s.PortStands (s.endUntilNext c) := by
  unfold State.endUntilNext
  split
  · exact dropOverride_stands s c
  · exact .refl s

theorem putOverride_stands (c : Chan) (a : Bool) (o : OverrideOrigin) (e : OverrideEnding) :
    s.PortStands (s.putOverride c a o e) := (dropOverride_stands s c).trans (setClaims_stands _ _ _)

theorem putHold_stands (c : Chan) (a : Bool) : s.PortStands (s.putHold c a) := setClaims_stands s c _

theorem dropHold_stands (c : Chan) : s.PortStands (s.dropHold c) := setClaims_stands s c _

theorem countdownChannel_stands (c : Chan) : s.PortStands (s.countdownChannel c) := by
  unfold State.countdownChannel
  dsimp only
  split
  · exact (setClaims_stands s c _).trans (dropOverride_stands _ c)
  · exact setClaims_stands s c _

theorem countdownOverrides_stands : s.PortStands s.countdownOverrides := pass_stands s countdownChannel_stands allChannels

/-! ## Schedule claims (R65 to R67) -/

theorem placeClaims_stands (i : SlotNo) (b : EntryBody) (m : CalMinute) : s.PortStands (s.placeClaims i b m) :=
  (pass_stands _ (fun s c => (setClaims_stands s c _).trans (endUntilNext_stands _ c)) _).behind rfl rfl rfl

theorem renewClaims_stands (i : SlotNo) (b : EntryBody) (m : CalMinute) : s.PortStands (s.renewClaims i b m) :=
  pass_stands s (fun s c => setClaims_stands s c _) _

theorem takeClaims_stands (i : SlotNo) (b : EntryBody) : s.PortStands (s.takeClaims i b) := by
  refine (forEach_stands (fun s c => ?_) _ _).behind rfl rfl rfl
  split
  · exact (setClaims_stands s c _).trans (endUntilNext_stands _ c)
  · exact .refl s

theorem removeClaims_stands (i : SlotNo) (b : EntryBody) : s.PortStands (s.removeClaims i b) :=
  (takeClaims_stands s i b).trans (retargetAll_stands _ _)

theorem dropClaims_stands (i : SlotNo) (e : Entry) : s.PortStands (s.dropClaims i e) := by
  unfold State.dropClaims
  split
  · exact (removeClaims_stands s i _).trans (raiseEntry_stands _ _ _)
  · exact .refl s

/-! ## Entries (R9, R10, R14, R20, R44) -/

theorem setEntry_stands (i : SlotNo) (e : Entry) : s.PortStands (s.setEntry i e) := .of_items rfl rfl rfl

/-- An entry that goes to ENDED, with the reason of its end. -/
theorem ended_stands (i : SlotNo) (e : Entry) (why : EndReason) (r : EntryReason) :
    s.PortStands ((s.toEnded i e why).raiseEntry i r) := (raiseEntry_stands _ i r).behind rfl rfl rfl

theorem start_stands (i : SlotNo) (f : Option CalMinute) : s.PortStands (s.start i f) := by
  unfold State.start
  split
  · exact .refl s
  · split
    · split
      · exact (raiseEntry_stands _ i .missed).behind rfl rfl rfl
      · exact ((placeClaims_stands s i _ _).trans (setEntry_stands _ i _)).trans (raiseEntry_stands _ i .started)
    · split
      · exact .refl s
      · exact ((renewClaims_stands s i _ _).trans (setEntry_stands _ i _)).trans (raiseEntry_stands _ i .started)
    · exact .refl s

theorem endClaim_stands (i : SlotNo) : s.PortStands (s.endClaim i) := by
  unfold State.endClaim
  split
  · exact .refl s
  · next e _ =>
    split
    · have hclaim := (removeClaims_stands s i e.body).trans (raiseEntry_stands _ i .claimEnded)
      dsimp only
      split
      · exact hclaim.trans (ended_stands _ i _ _ _)
      · split
        · exact hclaim.trans (ended_stands _ i _ _ _)
        · exact hclaim.trans (setEntry_stands _ i _)
    · exact .refl s

theorem stripClaims_stands (i : SlotNo) (e : Entry) : s.PortStands (s.stripClaims i e) := by
  unfold State.stripClaims
  split
  · exact (takeClaims_stands s i _).trans (raiseEntry_stands _ _ _)
  · exact .refl s

theorem clearSlot_stands (i : SlotNo) : s.PortStands (s.clearSlot i) := .of_items rfl rfl rfl

theorem retireOpen_stands (i : SlotNo) : s.PortStands (s.retireOpen i) := by
  unfold State.retireOpen
  split
  · exact .refl s
  · exact ((stripClaims_stands s i _).trans (clearSlot_stands _ i)).trans (raiseEntry_stands _ i .retired)

theorem retire_stands (i : SlotNo) : s.PortStands (s.retire i) := by
  unfold State.retire
  split
  · exact .refl s
  · exact (retireOpen_stands s i).trans (retargetAll_stands _ _)

theorem retireStored_stands (i : SlotNo) : s.PortStands (s.retireStored i) := by
  unfold State.retireStored
  split
  · exact .refl s
  · split
    · exact retire_stands s i
    · exact .refl s

theorem catchUp_stands (i : SlotNo) : s.PortStands (s.catchUp i) := by
  unfold State.catchUp
  split
  · exact .refl s
  · split
    · split
      · dsimp only
        split
        · exact start_stands s i _
        · exact .refl s
      · exact .refl s
    · exact .refl s

theorem chooseSlot_stands {s t : State} {i : SlotNo} (h : s.chooseSlot = some (i, t)) : s.PortStands t := by
  unfold State.chooseSlot at h
  split at h
  · cases h; exact .refl s
  · split at h
    · cases h; exact (clearSlot_stands s _).trans (raiseEntry_stands _ _ _)
    · cases h

theorem makeEntry_stands {s t : State} {o : Origin} {b : EntryBody} {i : SlotNo} (h : s.makeEntry o b = .ok (i, t)) :
    s.PortStands t := by
  unfold State.makeEntry at h
  dsimp only at h
  split at h
  · cases h
  · split at h
    · cases h
    · next hc =>
      cases h
      exact (((chooseSlot_stands hc).trans (setEntry_stands _ _ _)).trans (raiseEntry_stands _ _ _)).trans (catchUp_stands _ _)

/-! ## The calendar (R53 to R55, R59) -/

theorem lapse_stands : s.PortStands s.lapse := by
  unfold State.lapse
  split
  · exact (raiseCalendar_stands _ .lapsed).behind rfl rfl rfl
  · exact .refl s

theorem recomputeToday_stands : s.PortStands s.recomputeToday := .of_items rfl rfl rfl

theorem calendarDayWork_stands : s.PortStands s.calendarDayWork := (recomputeToday_stands s).trans (lapse_stands _)

theorem keepRecords_stands (keep : ExceptionRecord → Bool) : s.PortStands (s.keepRecords keep) := by
  unfold State.keepRecords
  split
  · exact .refl s
  · exact (raiseCalendar_stands _ .changed).behind rfl rfl rfl

theorem addRecord_stands {s t : State} {o : Origin} {x : ExceptionSpan × DayClass} (h : s.addRecord o x = .ok t) :
    s.PortStands t := by
  unfold State.addRecord at h
  dsimp only at h
  repeat' split at h
  all_goals cases h
  exact (raiseCalendar_stands _ .changed).behind rfl rfl rfl

theorem clearAll_stands : s.PortStands s.clearAll :=
  (((forEach_stands retireOpen_stands allSlots s).trans (keepRecords_stands _ _)).trans (recomputeToday_stands _)).trans
    (pass_stands _ dropOverride_stands allChannels)

/-! ## Passes over the table (R31 to R37, R45) -/

theorem tickSlot_stands (i : SlotNo) : s.PortStands (s.tickSlot i) := by
  unfold State.tickSlot
  split
  · exact .refl s
  · split
    · dsimp only
      split
      · exact (setEntry_stands s i _).trans (endClaim_stands _ i)
      · exact setEntry_stands s i _
    · exact .refl s

theorem expireSlot_stands (b : Bool) (i : SlotNo) : s.PortStands (s.expireSlot b i) := by
  unfold State.expireSlot
  split
  · exact .refl s
  · split
    · repeat' split
      all_goals exact .of_items rfl rfl rfl
    · exact .refl s
    · split
      · exact ended_stands s i _ _ _
      · exact .refl s

theorem armSlot_stands (i : SlotNo) : s.PortStands (s.armSlot i) := by
  unfold State.armSlot
  repeat' split
  all_goals exact .of_items rfl rfl rfl

theorem expiryArming_stands (b : Bool) : s.PortStands (s.expiryTest b).arming :=
  (forEach_stands (fun s i => expireSlot_stands s b i) allSlots s).trans (forEach_stands armSlot_stands allSlots _)

theorem dayRollover_stands : s.PortStands s.dayRollover := by
  unfold State.dayRollover
  dsimp only
  split
  · exact (calendarDayWork_stands s).trans (expiryArming_stands _ false)
  · exact calendarDayWork_stands s

theorem startSlot_stands (i : SlotNo) : s.PortStands (s.startSlot i) := by
  unfold State.startSlot
  split
  · exact .refl s
  · split
    · exact start_stands s i _
    · exact .refl s

theorem minuteEvaluation_stands : s.PortStands s.minuteEvaluation := by
  have hends := forEach_stands tickSlot_stands allSlots s
  unfold State.minuteEvaluation
  dsimp only
  generalize s.forEach allSlots State.tickSlot = u at hends ⊢
  have hroll : s.PortStands (if u.time.time.tod == ⟨0, 0⟩ then u.dayRollover else u) := by
    split
    · exact hends.trans (dayRollover_stands u)
    · exact hends
  generalize (if u.time.time.tod == ⟨0, 0⟩ then u.dayRollover else u) = v at hroll ⊢
  split
  · exact hroll.trans (forEach_stands startSlot_stands allSlots v)
  · exact hroll

theorem lightEndSlot_stands (ev : LightEvent) (i : SlotNo) : s.PortStands (s.lightEndSlot ev i) := by
  unfold State.lightEndSlot
  split
  · exact .refl s
  · split
    · exact endClaim_stands s i
    · exact .refl s

theorem lightStartSlot_stands (ev : LightEvent) (i : SlotNo) : s.PortStands (s.lightStartSlot ev i) := by
  unfold State.lightStartSlot
  split
  · exact .refl s
  · split
    · exact start_stands s i _
    · exact .refl s

theorem lightEvent_stands (ev : LightEvent) : s.PortStands (s.lightEvent ev) :=
  (forEach_stands (fun s i => lightEndSlot_stands s ev i) allSlots s).trans
    (forEach_stands (fun s i => lightStartSlot_stands s ev i) allSlots _)

theorem endPastSlot_stands (i : SlotNo) : s.PortStands (s.endPastSlot i) := by
  unfold State.endPastSlot
  split
  · exact .refl s
  · split
    · split
      · exact endClaim_stands s i
      · exact .refl s
    · exact .refl s

theorem setTimeSchedule_stands : s.PortStands s.setTimeSchedule :=
  ((expiryArming_stands s true).trans (forEach_stands endPastSlot_stands allSlots _)).trans
    (forEach_stands catchUp_stands allSlots _)

theorem takeTime_stands (t : CalTime) : s.PortStands (s.takeTime t) := by
  unfold State.takeTime
  refine State.PortStands.trans ?_ ((calendarDayWork_stands _).trans (setTimeSchedule_stands _))
  split
  · exact .of_items rfl rfl rfl
  · exact (raiseSystem_stands _ .timeValidity).behind rfl rfl rfl

end

end Sys2Proof.Machine
end

/-! The other blocks, the items of a load and the commands: each leaves the port's queues and executor as they stand. -/

section
namespace Sys2Proof.Machine

section
variable (s : State)

/-! ## The Switching Engine (R83, R84, R89 to R99) -/

theorem setEngine_stands (x : SwitchingEngine) : s.PortStands (s.setEngine x) := .of_items rfl rfl rfl

theorem reportDriven_stands (c : Chan) (d : Driven) : s.PortStands (s.reportDriven c d) := by
  unfold State.reportDriven
  split
  · exact .refl s
  · exact raiseChannel_stands s c .drivenChanged

theorem changeKind_stands (c : Chan) (k : ChannelKind) : s.PortStands (s.changeKind c k) :=
  (reportDriven_stands _ c _).behind rfl rfl rfl

theorem storeConfig_stands (c : Chan) (cfg : ChannelConfig) : s.PortStands (s.storeConfig c cfg) := by
  unfold State.storeConfig
  dsimp only
  split
  · exact setChan_stands s c _
  · exact (setChan_stands s c _).trans (changeKind_stands _ c _)

theorem reconcile_stands (c : Chan) : s.PortStands (s.reconcile c) := by
  unfold State.reconcile
  dsimp only
  split <;> exact .of_items rfl rfl rfl

theorem applyConfig_stands (c : Chan) (cfg : ChannelConfig) : s.PortStands (s.applyConfig c cfg) := by
  rw [applyConfig_eq]
  refine State.PortStands.trans ?_ (reconcile_stands _ c)
  split
  · exact storeConfig_stands s c cfg
  · exact (storeConfig_stands s c cfg).trans (retarget_stands _ c)

theorem scanQueue_stands (cs : List Chan) (room : Nat) : s.PortStands (scanQueue s cs room).1 := by
  induction cs generalizing s room with
  | nil => exact .refl s
  | cons c cs ih =>
    cases room with
    | zero => exact .refl s
    | succ room =>
      unfold scanQueue
      split
      · exact (ih _ _).behind rfl rfl rfl
      · exact ih _ _

theorem switchingSlot_stands : s.PortStands s.switchingSlot := (scanQueue_stands s _ _).trans (setEngine_stands _ _)

theorem crystalTick_stands : s.PortStands s.crystalTick := by
  unfold State.crystalTick
  dsimp only
  split
  · split
    · exact .of_items rfl rfl rfl
    · exact (switchingSlot_stands _).behind rfl rfl rfl
  · exact .refl s

theorem coilAction_stands (c : Chan) : s.PortStands (s.coilAction c) := by
  unfold State.coilAction
  split <;> exact .of_items rfl rfl rfl

theorem pulseStart_stands (c : Chan) : s.PortStands (s.pulseStart c) := by
  unfold State.pulseStart
  split <;> exact .of_items rfl rfl rfl

theorem complete_stands (c : Chan) : s.PortStands (s.complete c) := by
  unfold State.complete
  split
  · next op _ =>
    have hreport := (setChan_stands s c ((s.chan c).completed op)).trans (raiseChannel_stands _ c .drivenChanged)
    dsimp only
    split
    · exact hreport
    · exact hreport.trans (.of_items rfl rfl rfl)
  · exact .refl s

theorem abandon_stands (c : Chan) : s.PortStands (s.abandon c) := (setChan_stands s c _).trans (reportDriven_stands _ c _)

theorem abandonAll_stands : s.PortStands s.abandonAll :=
  (forEach_stands abandon_stands allChannels s).trans (setEngine_stands _ _)

theorem reconcileAll_stands : s.PortStands s.reconcileAll := forEach_stands reconcile_stands allChannels s

/-! ## The Time Base and the Line Monitor (R122 to R137, R140) -/

theorem makeDoubtful_stands : s.PortStands s.makeDoubtful := by
  unfold State.makeDoubtful
  split
  · exact (raiseSystem_stands _ .timeValidity).behind rfl rfl rfl
  · exact .refl s

theorem judgeSource_stands : s.PortStands s.judgeSource := by
  unfold State.judgeSource State.handToLine State.handToCrystal
  dsimp only
  split
  · exact .refl s
  · split
    · exact .of_items rfl rfl rfl
    · split
      · exact .of_items rfl rfl rfl
      · exact (makeDoubtful_stands _).behind rfl rfl rfl

theorem secondBoundary_stands : s.PortStands s.secondBoundary := by
  unfold State.secondBoundary
  dsimp only
  split
  · split
    · exact (makeDoubtful_stands s).trans (.of_items rfl rfl rfl)
    · exact .of_items rfl rfl rfl
  · exact .refl s

theorem stopCrystal_stands : s.PortStands s.stopCrystal := by
  unfold State.stopCrystal
  dsimp only
  split
  · exact .refl s
  · split
    · exact (makeDoubtful_stands _).behind rfl rfl rfl
    · exact .of_items rfl rfl rfl

theorem runCrystal_stands : s.PortStands s.runCrystal := by
  unfold State.runCrystal
  split <;> exact .of_items rfl rfl rfl

theorem updateLine_stands (l : LineMonitor) : s.PortStands (s.updateLine l) := by
  unfold State.updateLine
  dsimp only
  split
  · exact .of_items rfl rfl rfl
  · exact (raiseSystem_stands _ .line).behind rfl rfl rfl

theorem loseLine_stands : s.PortStands s.loseLine := (updateLine_stands s _).trans (judgeSource_stands _)

theorem risingCrossing_stands : s.PortStands s.risingCrossing := by
  unfold State.risingCrossing
  split
  · refine ((updateLine_stands s (s.line.rise s.cycles s.time.crystalRunning)).trans (judgeSource_stands _)).trans ?_
    generalize (s.updateLine (s.line.rise s.cycles s.time.crystalRunning)).judgeSource = u
    dsimp only
    split
    · split
      · exact (switchingSlot_stands _).behind rfl rfl rfl
      · exact switchingSlot_stands u
    · exact .refl u
  · exact .refl s

theorem fallingCrossing_stands : s.PortStands s.fallingCrossing := by
  unfold State.fallingCrossing
  dsimp only
  split
  · split
    · exact (switchingSlot_stands _).behind rfl rfl rfl
    · exact .of_items rfl rfl rfl
  · exact .refl s

theorem absenceTimeout_stands : s.PortStands s.absenceTimeout := by
  unfold State.absenceTimeout
  split
  · exact loseLine_stands s
  · exact .refl s

theorem takeMinuteTick_stands : s.PortStands s.takeMinuteTick := by
  unfold State.takeMinuteTick
  split
  · exact (minuteEvaluation_stands _).behind rfl rfl rfl
  · exact .refl s

theorem takeClaimTick_stands : s.PortStands s.takeClaimTick := by
  unfold State.takeClaimTick
  split
  · exact (countdownOverrides_stands _).behind rfl rfl rfl
  · exact .refl s

/-! ## The Light Monitor (R111, R117, R120) -/

theorem updateLight_stands (l : LightMonitor) : s.PortStands (s.updateLight l) := by
  unfold State.updateLight
  dsimp only
  split
  · exact .of_items rfl rfl rfl
  · exact (raiseSystem_stands _ .light).behind rfl rfl rfl

theorem darkenLight_stands : s.PortStands s.darkenLight := updateLight_stands s _

theorem luxSample_stands (v : Nat) : s.PortStands (s.luxSample v) := by
  unfold State.luxSample
  split
  · split
    · exact updateLight_stands s _
    · exact (updateLight_stands s _).trans (lightEvent_stands _ _)
  · exact .refl s

/-! ## The Button Unit (R106 to R110) -/

theorem setPress_stands (b : ButtonNo) (p : PressState) : s.PortStands (s.setPress b p) := .of_items rfl rfl rfl

theorem releaseButton_stands (b : ButtonNo) : s.PortStands (s.releaseButton b) := setPress_stands s b _

theorem setLastAction_stands (b : ButtonNo) (o : PressOutcome) : s.PortStands (s.setLastAction b o) := .of_items rfl rfl rfl

theorem reportHeld_stands (cs : List Chan) : s.PortStands (s.reportHeld cs) :=
  forEach_stands (fun s c => raiseChannel_stands s c .holdBlocked) cs s

theorem shortPress_stands (b : ButtonNo) : s.PortStands (s.shortPress b) := by
  unfold State.shortPress
  dsimp only
  split
  · exact (reportHeld_stands s _).trans (setLastAction_stands _ b _)
  · exact ((reportHeld_stands s _).trans (pass_stands _ (fun s c => putOverride_stands s c _ _ _) _)).trans
      (setLastAction_stands _ b _)

theorem longPressAction_stands (b : ButtonNo) : s.PortStands (s.longPressAction b) := by
  unfold State.longPressAction
  dsimp only
  split
  · exact (reportHeld_stands s _).trans (setLastAction_stands _ b _)
  · exact ((reportHeld_stands s _).trans (pass_stands _ dropOverride_stands _)).trans (setLastAction_stands _ b _)

theorem releaseConfirm_stands (b : ButtonNo) : s.PortStands (s.releaseConfirm b) := by
  unfold State.releaseConfirm
  split
  · split
    · split
      · exact (shortPress_stands s b).trans (setPress_stands _ b _)
      · exact .of_items rfl rfl rfl
    · exact setPress_stands s b _
  · exact .refl s

theorem longPress_stands (b : ButtonNo) : s.PortStands (s.longPress b) := by
  unfold State.longPress
  split
  · exact (longPressAction_stands s b).trans (setPress_stands _ b _)
  · exact .refl s

theorem inputLow_stands (b : ButtonNo) : s.PortStands (s.inputLow b) := by
  unfold State.inputLow
  dsimp only
  split
  · exact .refl s
  · refine (releaseConfirm_stands s b).trans ?_
    generalize s.releaseConfirm b = u
    have hlevel : u.PortStands (let v := u.setButton b { u.button b with pinLow := true }
        if v.supply.state = .backup then v else v.setButton b { v.button b with sampledLow := true }) := by
      dsimp only
      split <;> exact .of_items rfl rfl rfl
    refine hlevel.trans ?_
    dsimp only
    generalize (if (u.setButton b _).supply.state = .backup then _ else _) = v
    split
    · split
      · exact setPress_stands v b _
      · exact setPress_stands v b _
      · split
        · exact (longPressAction_stands v b).trans (setPress_stands _ b _)
        · exact setPress_stands v b _
      · exact setPress_stands v b _
    · exact .refl v

theorem inputHigh_stands (b : ButtonNo) : s.PortStands (s.inputHigh b) := by
  unfold State.inputHigh
  dsimp only
  repeat' split
  all_goals exact .of_items rfl rfl rfl

theorem debounceExpiry_stands (b : ButtonNo) : s.PortStands (s.debounceExpiry b) := by
  unfold State.debounceExpiry
  repeat' split
  all_goals exact .of_items rfl rfl rfl

/-! ## The Supply Controller outside BACKUP (R147, R148) -/

theorem enterRun_stands : s.PortStands s.enterRun := by
  refine .trans ?_ (reconcileAll_stands _)
  exact ⟨rfl, rfl, rfl, rfl, rfl, rfl, (nomatch ·), addReasons_ok (by decide)⟩

theorem countdownSecond_stands : s.PortStands s.countdownSecond := by
  unfold State.countdownSecond
  split <;> exact .of_items rfl rfl rfl

theorem countdownExpiry_stands : s.PortStands s.countdownExpiry := by
  unfold State.countdownExpiry
  split
  · exact enterRun_stands s
  · exact .refl s

theorem retainedLoss_stands : s.PortStands s.retainedLoss := by
  unfold State.retainedLoss
  split <;> exact .of_items rfl rfl rfl

/-! ## Loads (R159 to R162) -/

theorem setLoad_stands (l : LoadRecord) : s.PortStands (s.setLoad l) := .of_items rfl rfl rfl

theorem endLoad_stands (l : LoadRecord) : s.PortStands (s.endLoad l) := (raiseSystem_stands _ .loadDone).behind rfl rfl rfl

theorem retirePhase_stands : s.PortStands s.retirePhase :=
  (forEach_stands retireStored_stands allSlots s).trans (keepRecords_stands _ _)

theorem retired_stands (src : LoadSource) : s.PortStands (s.retired src) :=
  ((setLoad_stands s _).trans (retirePhase_stands _)).trans (setLoad_stands _ _)

theorem startLoad_stands (src : LoadSource) : s.PortStands (s.startLoad src) := by
  cases ht : headerTests s.store.array with
  | some r => rw [startLoad_of_bad src ht]; exact endLoad_stands s _
  | none =>
    rw [startLoad_of_good src ht]
    split
    · exact (retired_stands s src).trans (endLoad_stands _ _)
    · exact retired_stands s src

/-! ## Items of a load and the commands that share them (R161, R192) -/

section
variable {s} {t : State} {p : List Byte}

theorem configureItem_stands {c : Chan} (h : configureItem p s = .ok (c, t)) : s.PortStands t := by
  unfold configureItem at h
  repeat' split at h
  all_goals cases h
  exact applyConfig_stands s _ _

theorem entryItem_stands (h : entryItem p s = .ok t) : s.PortStands t := by
  unfold entryItem at h
  repeat' split at h
  all_goals cases h
  next hm => exact makeEntry_stands hm

theorem addExceptionItem_stands {o : Origin} (h : addExceptionItem o p s = .ok t) : s.PortStands t := by
  unfold addExceptionItem at h
  split at h
  · split at h
    · exact addRecord_stands h
    · cases h
  · cases h

theorem lightLimitsItem_stands (h : lightLimitsItem p s = .ok t) : s.PortStands t := by
  unfold lightLimitsItem at h
  dsimp only at h
  repeat' split at h
  all_goals cases h
  exact .of_items rfl rfl rfl

theorem buttonItem_stands {b : ButtonNo} (h : buttonItem p s = .ok (b, t)) : s.PortStands t := by
  unfold buttonItem at h
  repeat' split at h
  all_goals cases h
  exact .of_items rfl rfl rfl

theorem timeSourceItem_stands (h : timeSourceItem p s = .ok t) : s.PortStands t := by
  unfold timeSourceItem at h
  repeat' split at h
  all_goals cases h
  all_goals exact (judgeSource_stands _).behind rfl rfl rfl

theorem lineConfirmItem_stands (h : lineConfirmItem p s = .ok t) : s.PortStands t := by
  unfold lineConfirmItem at h
  repeat' split at h
  all_goals cases h
  exact .of_items rfl rfl rfl

theorem supplyItem_stands (h : supplyItem p s = .ok t) : s.PortStands t := by
  unfold supplyItem at h
  repeat' split at h
  all_goals cases h
  exact .of_items rfl rfl rfl

theorem applyItem_stands {type : Byte} (h : applyItem type p s = .ok t) : s.PortStands t := by
  unfold applyItem at h
  split at h
  · obtain ⟨x, hx, rfl⟩ := ok_of_map h
    exact configureItem_stands hx
  · exact entryItem_stands h
  · exact addExceptionItem_stands h
  · exact lightLimitsItem_stands h
  · obtain ⟨x, hx, rfl⟩ := ok_of_map h
    exact buttonItem_stands hx
  · exact lineConfirmItem_stands h
  · exact supplyItem_stands h
  · exact timeSourceItem_stands h
  · cases h

end

theorem takeItem_stands (n : NextItem) : s.PortStands (s.takeItem n) := by
  unfold State.takeItem
  dsimp only
  split
  · next hv => exact (applyItem_stands hv).trans (setLoad_stands _ _)
  · exact setLoad_stands s _

theorem loadStep_stands : s.PortStands s.loadStep := by
  cases hd : s.loadStepDue with
  | none => rw [loadStep_of_none hd]; exact .refl s
  | some n =>
    rw [loadStep_of_due hd]
    split
    · exact (takeItem_stands s n).trans (endLoad_stands _ _)
    · exact takeItem_stands s n

/-! ## Commands -/

variable (p : List Byte)

theorem cmdCreateEntry_stands : Answers s.PortStands (cmdCreateEntry p s) := by
  refine answers_check (answers_check ?_)
  split
  · exact answers_error
  · split
    · exact answers_error
    · next hm => exact answers_ok (makeEntry_stands hm)

theorem cmdModifyEntry_stands : Answers s.PortStands (cmdModifyEntry p s) := by
  refine answers_check ?_
  split
  · refine answers_check fun t q ha => ?_
    obtain ⟨i, e, -, -, -, hg⟩ := withHandle_ok ha
    split at hg
    · cases hg
    · obtain ⟨-, hg⟩ := check_ok hg
      obtain ⟨-, hg⟩ := check_ok hg
      cases hg
      exact (((dropClaims_stands s i e).trans (setEntry_stands _ i _)).trans (raiseEntry_stands _ i _)).trans
        (catchUp_stands _ i)
  · exact answers_error

theorem cmdSuspendEntry_stands : Answers s.PortStands (cmdSuspendEntry p s) := by
  refine handleCommand_answers fun i e _ => answers_check (answers_ok ?_)
  refine State.PortStands.trans ?_ (raiseEntry_stands _ i .modified)
  refine (dropClaims_stands s i e).trans ?_
  split
  · exact ended_stands _ i _ _ _
  · exact setEntry_stands _ i _

theorem cmdResumeEntry_stands : Answers s.PortStands (cmdResumeEntry p s) := by
  refine handleCommand_answers fun i e _ => answers_check (answers_ok ?_)
  refine State.PortStands.trans ?_ ((raiseEntry_stands _ i .modified).trans (catchUp_stands _ i))
  split
  · exact ended_stands s i _ _ _
  · exact setEntry_stands s i _
  · exact setEntry_stands s i _

theorem cmdRetireEntry_stands : Answers s.PortStands (cmdRetireEntry p s) :=
  handleCommand_answers fun i _ _ => answers_ok (retire_stands s i)

theorem cmdStartEntry_stands : Answers s.PortStands (cmdStartEntry p s) :=
  handleCommand_answers fun i _ _ => answers_check (answers_ok (start_stands s i none))

theorem cmdEndEntry_stands : Answers s.PortStands (cmdEndEntry p s) :=
  handleCommand_answers fun i _ _ => answers_check (answers_ok (endClaim_stands s i))

theorem cmdClearAll_stands : Answers s.PortStands (cmdClearAll p s) :=
  answers_check (answers_check (answers_ok (clearAll_stands s)))

theorem cmdAddException_stands : Answers s.PortStands (cmdAddException p s) := by
  refine answers_check ?_
  split
  · next ha => exact answers_ok (addExceptionItem_stands ha)
  · exact answers_error

theorem cmdRemoveException_stands : Answers s.PortStands (cmdRemoveException p s) := by
  refine answers_check ?_
  split
  · split
    · exact answers_check (answers_ok (keepRecords_stands s _))
    · exact answers_error
  · exact answers_error

theorem cmdOverride_stands : Answers s.PortStands (cmdOverride p s) := by
  unfold cmdOverride
  split
  · split
    · exact answers_check (answers_ok (pass_stands s (fun s c => putOverride_stands s c _ _ _) _))
    · exact answers_error
  · exact answers_error

theorem cmdClearOverride_stands : Answers s.PortStands (cmdClearOverride p s) := by
  unfold cmdClearOverride
  split
  · exact answers_check (answers_ok (pass_stands s dropOverride_stands _))
  · exact answers_error

theorem cmdHold_stands : Answers s.PortStands (cmdHold p s) := by
  unfold cmdHold
  split
  · split
    · exact answers_check (answers_ok (pass_stands s (fun s c => putHold_stands s c _) _))
    · exact answers_error
  · exact answers_error

theorem cmdReleaseHold_stands : Answers s.PortStands (cmdReleaseHold p s) := by
  unfold cmdReleaseHold
  split
  · exact answers_check (answers_ok (pass_stands s dropHold_stands _))
  · exact answers_error

theorem cmdConfigureChannel_stands : Answers s.PortStands (cmdConfigureChannel p s) := by
  refine answers_check ?_
  split
  · exact answers_error
  · next hi => exact answers_ok (configureItem_stands hi)

theorem cmdSetStagger_stands : Answers s.PortStands (cmdSetStagger p s) := by
  unfold cmdSetStagger
  split
  · exact answers_check (answers_ok (.of_items rfl rfl rfl))
  · exact answers_error

theorem cmdConfigureButton_stands : Answers s.PortStands (cmdConfigureButton p s) := by
  refine answers_check ?_
  split
  · exact answers_error
  · next hi => exact answers_ok (buttonItem_stands hi)

theorem cmdSetLightLimits_stands : Answers s.PortStands (cmdSetLightLimits p s) := by
  refine answers_check ?_
  split
  · exact answers_error
  · next hi => exact answers_ok (lightLimitsItem_stands hi)

theorem cmdSetTime_stands : Answers s.PortStands (cmdSetTime p s) := by
  unfold cmdSetTime
  split
  · split
    · exact answers_error
    · exact answers_check (answers_ok (takeTime_stands s _))
  · exact answers_error

theorem cmdSetTimeSource_stands : Answers s.PortStands (cmdSetTimeSource p s) := by
  unfold cmdSetTimeSource
  split
  · exact answers_error
  · next hi => exact answers_ok (timeSourceItem_stands hi)

theorem cmdSetLineConfirm_stands : Answers s.PortStands (cmdSetLineConfirm p s) := by
  unfold cmdSetLineConfirm
  split
  · exact answers_error
  · next hi => exact answers_ok (lineConfirmItem_stands hi)

theorem cmdSetSupply_stands : Answers s.PortStands (cmdSetSupply p s) := by
  unfold cmdSetSupply
  split
  · exact answers_ok (.of_items rfl rfl rfl)
  · exact answers_error

theorem cmdLoadDefaults_stands : Answers s.PortStands (cmdLoadDefaults p s) :=
  answers_check (answers_check (answers_ok (startLoad_stands s .host)))

/-- What READ_CHANGES leaves is the change set's tail, in its order (R183). -/
theorem cmdReadChanges_stands : Answers s.PortStands (cmdReadChanges p s) := by
  unfold cmdReadChanges
  split
  · exact answers_check (answers_ok
      ⟨rfl, rfl, rfl, rfl, rfl, rfl, id, fun h => changesOk_sublist h (List.drop_sublist _ _)⟩)
  · exact answers_error

theorem cmdSetNoticeMask_stands : Answers s.PortStands (cmdSetNoticeMask p s) := by
  unfold cmdSetNoticeMask
  split
  · exact answers_check (answers_ok ⟨rfl, rfl, rfl, rfl, rfl, rfl, id, id⟩)
  · exact answers_error

end

/-- No command of the catalogue touches a queue or the executor; its reply is the executor's work (R176). -/
theorem runCommand_stands (cmd : Byte) (p : List Byte) (s : State) : Answers s.PortStands (runCommand cmd p s) := by
  have hread {a : Answer} (ha : Answers (· = s) a) : Answers s.PortStands a := answers_mono ha fun t h => h ▸ .refl t
  unfold runCommand
  split
  · exact cmdCreateEntry_stands s p
  · exact hread (cmdReadEntry_reads p s)
  · exact cmdModifyEntry_stands s p
  · exact cmdSuspendEntry_stands s p
  · exact cmdResumeEntry_stands s p
  · exact cmdRetireEntry_stands s p
  · exact cmdStartEntry_stands s p
  · exact cmdEndEntry_stands s p
  · exact hread (cmdFindEntries_reads p s)
  · exact cmdClearAll_stands s p
  · exact cmdAddException_stands s p
  · exact cmdRemoveException_stands s p
  · exact hread (cmdListExceptions_reads p s)
  · exact hread (cmdDayClass_reads p s)
  · exact cmdOverride_stands s p
  · exact cmdClearOverride_stands s p
  · exact cmdHold_stands s p
  · exact cmdReleaseHold_stands s p
  · exact hread (cmdReadChannel_reads p s)
  · exact cmdConfigureChannel_stands s p
  · exact cmdSetStagger_stands s p
  · exact cmdConfigureButton_stands s p
  · exact hread (cmdReadButton_reads p s)
  · exact cmdSetLightLimits_stands s p
  · exact hread (cmdReadLight_reads p s)
  · exact cmdSetTime_stands s p
  · exact hread (cmdReadTime_reads p s)
  · exact cmdSetTimeSource_stands s p
  · exact cmdSetLineConfirm_stands s p
  · exact hread (cmdReadLine_reads p s)
  · exact cmdSetSupply_stands s p
  · exact hread (cmdReadSupply_reads p s)
  · exact hread (cmdReadStore_reads p s)
  · exact cmdLoadDefaults_stands s p
  · exact hread (cmdLoadStatus_reads p s)
  · exact cmdReadChanges_stands s p
  · exact cmdSetNoticeMask_stands s p
  · exact hread (cmdIdentify_reads p s)
  · exact answers_error

end Sys2Proof.Machine
end

/-! The port's invariant (R174 to R179): what the executor, a transaction, a port reset, a programming millisecond and the supply do to the
port's queues, and the traversal of a step. -/

section
namespace Sys2Proof.Machine

/-- The change from one state to another keeps the port's invariant, and the form of the change set. -/
structure State.KeepsPort (s t : State) : Prop where
  ok : s.PortOk → t.PortOk
  changes : changesOk s.port.changes → changesOk t.port.changes

theorem State.KeepsPort.refl (s : State) : s.KeepsPort s := ⟨id, id⟩

theorem State.KeepsPort.trans {s t u : State} (h : s.KeepsPort t) (k : t.KeepsPort u) : s.KeepsPort u :=
  ⟨k.ok ∘ h.ok, k.changes ∘ h.changes⟩

theorem State.PortStands.portOk {s t : State} (h : s.PortStands t) (hs : s.PortOk) : t.PortOk where
  requests := by rw [h.requests]; exact hs.requests
  replies := by rw [h.replies]; exact hs.replies
  busy := by rw [h.busy, h.programming]; exact hs.busy
  place pr hp := by rw [h.replies]; exact hs.place pr (h.programming ▸ hp)
  dead hd := by rw [h.requests, h.replies, h.programming, h.transaction]; exact hs.dead (h.supplied hd)

theorem State.PortStands.keepsPort {s t : State} (h : s.PortStands t) : s.KeepsPort t := ⟨h.portOk, h.changes⟩

/-! ## When the port is active and the executor free (R168, R176) -/

theorem portActive_iff (s : State) : s.portActive = true ↔ s.supply.state ≠ .backup ∧ s.port.prstnLow = false := by
  simp [State.portActive]

theorem executorFree_iff (s : State) : s.executorFree = true ↔
    s.portActive = true ∧ s.port.executorBusy = false ∧ s.port.replies.length < Config.queuePlaces := by
  simp [State.executorFree, and_assoc]

section
variable {s t : State}

theorem not_backup_of_portActive (h : s.portActive = true) : s.supply.state ≠ .backup := ((portActive_iff s).mp h).1

theorem not_backup_of_executorFree (h : s.executorFree = true) : s.supply.state ≠ .backup :=
  not_backup_of_portActive ((executorFree_iff s).mp h).1

/-- An operation outside the port leaves a free executor free. -/
theorem State.PortStands.executorFree (h : s.PortStands t) (hf : s.executorFree = true) : t.executorFree = true := by
  rw [executorFree_iff, portActive_iff] at hf ⊢
  obtain ⟨⟨hs, hp⟩, hb, hr⟩ := hf
  exact ⟨⟨hs ∘ h.supplied, h.prstn.trans hp⟩, h.busy.trans hb, h.replies ▸ hr⟩

/-! ## The executor (R176, R177) -/

/-- A reply that a free executor queues has its place. -/
theorem pushReply_keepsPort (hf : s.executorFree = true) (r : Reply) : s.KeepsPort (s.pushReply r) := by
  obtain ⟨-, hb, hr⟩ := (executorFree_iff s).mp hf
  have hu := not_backup_of_executorFree hf
  refine ⟨fun hs => { hs with
    replies := by rw [State.pushReply, State.setPort_port, List.length_append]; exact hr
    place := fun pr hp => ?_
    dead := fun hd => absurd hd hu }, id⟩
  have hbusy : s.port.executorBusy = true := by rw [hs.busy, show s.store.programming = some pr from hp]; rfl
  exact absurd hbusy (Bool.eq_false_iff.mp hb)

/-- A PROGRAM_STORE that is taken makes the executor BUSY, and does nothing else to the port (R177). -/
theorem cmdProgramStore_ok {p : List Byte} {tag : Byte} (h : cmdProgramStore p tag s = .ok t) :
    ∃ pr, t = (s.setProgramming (some pr)).setPort { s.port with executorBusy := true } := by
  unfold cmdProgramStore at h
  repeat' split at h
  all_goals cases h
  exact ⟨_, rfl⟩

/-- The place that a free executor has for a reply is kept for the PROGRAM_STORE that it takes. -/
theorem cmdProgramStore_keepsPort {p : List Byte} {tag : Byte} (hf : s.executorFree = true)
    (h : cmdProgramStore p tag s = .ok t) : s.KeepsPort t := by
  obtain ⟨pr, rfl⟩ := cmdProgramStore_ok h
  obtain ⟨-, -, hr⟩ := (executorFree_iff s).mp hf
  have hu := not_backup_of_executorFree hf
  exact ⟨fun hs => { hs with
    busy := rfl
    place := fun _ _ => hr
    dead := fun hd => absurd hd hu }, id⟩

theorem execute_keepsPort (hf : s.executorFree = true) (rq : Request) : s.KeepsPort (s.execute rq) := by
  unfold State.execute
  split
  · split
    · next hc => exact cmdProgramStore_keepsPort hf hc
    · exact pushReply_keepsPort hf _
  · unfold State.answer
    split
    · next hc =>
      have hstands := runCommand_stands _ _ _ _ _ hc
      exact hstands.keepsPort.trans (pushReply_keepsPort (hstands.executorFree hf) _)
    · exact pushReply_keepsPort hf _

/-- The head of the request queue leaves it. -/
theorem popRequest_keepsPort {rq : Request} {rest : List Request} (hr : s.port.requests = rq :: rest) :
    s.KeepsPort (s.setPort { s.port with requests := rest }) := by
  refine ⟨fun hs => { hs with
    requests := (Nat.le_succ _).trans (by simpa [hr] using hs.requests)
    dead := fun hd => ?_ }, id⟩
  obtain ⟨hempty, -⟩ := hs.dead hd
  rw [hempty] at hr
  cases hr

theorem takeRequests_keepsPort (n : Nat) (s : State) : s.KeepsPort (s.takeRequests n) := by
  induction n generalizing s with
  | zero => exact .refl s
  | succ n ih =>
    unfold State.takeRequests
    split
    · exact .refl s
    · next rq rest hr =>
      split
      · next hf =>
        have htaken : (s.setPort { s.port with requests := rest }).executorFree = true := hf
        exact ((popRequest_keepsPort hr).trans (execute_keepsPort htaken rq)).trans (ih _)
      · exact .refl s

theorem executor_keepsPort (s : State) : s.KeepsPort s.executor := takeRequests_keepsPort _ s

/-! ## Requests (R168, R170, R171) -/

/-- A request joins the tail of the queue where there is a place. -/
theorem pushRequest_keepsPort (hu : s.supply.state ≠ .backup) (hr : s.port.requests.length < Config.queuePlaces)
    (rq : Request) : s.KeepsPort (s.setPort { s.port with requests := s.port.requests ++ [rq] }) :=
  ⟨fun hs => { hs with
    requests := by rw [State.setPort_port, List.length_append]; exact hr
    dead := fun hd => absurd hd hu }, id⟩

theorem accept_keepsPort (hu : s.supply.state ≠ .backup) (hr : s.port.requests.length < Config.queuePlaces) (rq : Request) :
    s.KeepsPort (s.accept rq) := (pushRequest_keepsPort hu hr rq).trans (executor_keepsPort _)

theorem accept_changes (s : State) (rq : Request) (h : changesOk s.port.changes) : changesOk (s.accept rq).port.changes :=
  (executor_keepsPort (s.setPort { s.port with requests := s.port.requests ++ [rq] })).changes h

/-- The discard flag is no part of the invariant. -/
theorem setDiscard_stands (s : State) (b : Bool) : s.PortStands (s.setPort { s.port with discard := b }) :=
  ⟨rfl, rfl, rfl, rfl, rfl, rfl, id, id⟩

theorem submit_keepsPort (s : State) (cmd tag : Byte) (p : List Byte) : s.KeepsPort (s.submit cmd tag p) := by
  unfold State.submit
  split
  · next ha =>
    split
    · next hfit => exact accept_keepsPort (not_backup_of_portActive ha) hfit.2 _
    · exact (setDiscard_stands s true).keepsPort
  · exact .refl s

theorem judgeFrame_portOk (hu : s.supply.state ≠ .backup) (bytes : List Byte) (n : Nat) (hs : s.PortOk) :
    (s.judgeFrame bytes n).PortOk := by
  unfold State.judgeFrame
  split
  · split
    · next hr => exact (accept_keepsPort hu hr _).ok hs
    · exact (setDiscard_stands s true).portOk hs
  · exact (setDiscard_stands s true).portOk hs

theorem judgeFrame_changes (s : State) (bytes : List Byte) (n : Nat) (h : changesOk s.port.changes) :
    changesOk (s.judgeFrame bytes n).port.changes := by
  unfold State.judgeFrame
  split
  · split
    · exact accept_changes s _ h
    · exact h
  · exact h

/-! ## Transactions (R168, R169, R171, R173) -/

/-- A transaction begins on an active port alone, so never in BACKUP. -/
theorem startTransaction_keepsPort (s : State) : s.KeepsPort s.startTransaction := by
  unfold State.startTransaction
  split
  · exact .refl s
  · refine ⟨fun hs => { hs with dead := fun hd => ?_ }, id⟩
    obtain ⟨hq, hr, hp, -⟩ := hs.dead hd
    exact ⟨hq, hr, hp, if_neg fun ha => not_backup_of_portActive ha hd⟩

theorem statusShifted_stands (s : State) : s.PortStands s.statusShifted := by
  unfold State.statusShifted
  split
  · split
    · exact setDiscard_stands s false
    · exact .refl s
  · exact .refl s

/-- A reply is latched in a transaction in progress alone. -/
theorem latchReply_keepsPort (s : State) : s.KeepsPort s.latchReply := by
  unfold State.latchReply
  split
  · next ht =>
    refine ⟨fun hs => { hs with dead := fun hd => ?_ }, id⟩
    obtain ⟨-, -, -, hnone⟩ := hs.dead hd
    rw [hnone] at ht
    cases ht
  · exact .refl s

theorem raiseCsn_keepsPort (s : State) : s.KeepsPort s.raiseCsn := by
  refine ⟨fun hs => { hs with dead := fun hd => ?_ }, id⟩
  obtain ⟨hq, hr, hp, -⟩ := hs.dead hd
  exact ⟨hq, hr, hp, rfl⟩

theorem popReply_keepsPort (s : State) : s.KeepsPort (s.setPort { s.port with replies := s.port.replies.tail }) := by
  have hlength : s.port.replies.tail.length ≤ s.port.replies.length := by
    rw [List.length_tail]; exact Nat.sub_le _ _
  refine ⟨fun hs => { hs with
    replies := hlength.trans hs.replies
    place := fun pr hp => hlength.trans_lt (hs.place pr hp)
    dead := fun hd => ?_ }, id⟩
  obtain ⟨hq, hr, hp, ht⟩ := hs.dead hd
  exact ⟨hq, by rw [State.setPort_port, hr]; rfl, hp, ht⟩

theorem endReplyRead_keepsPort (s : State) (x : Transaction) (n : Nat) : s.KeepsPort (s.endReplyRead x n) := by
  unfold State.endReplyRead
  split
  · split
    · exact (popReply_keepsPort s).trans (executor_keepsPort _)
    · exact .refl s
  · exact .refl s

/-- A frame is judged at the end of a transaction alone, and none is in progress in BACKUP. -/
theorem endRequest_keepsPort (s : State) (bytes : List Byte) (n : Nat) : s.KeepsPort (s.endRequest bytes n) := by
  unfold State.endRequest
  split
  · exact raiseCsn_keepsPort s
  · next x ht =>
    split
    · exact raiseCsn_keepsPort s
    · split
      · exact (raiseCsn_keepsPort s).trans (endReplyRead_keepsPort _ _ _)
      · refine ⟨fun hs => ?_, judgeFrame_changes s.raiseCsn _ _⟩
        have hu : s.raiseCsn.supply.state ≠ .backup := fun hd => by
          obtain ⟨-, -, -, hnone⟩ := hs.dead hd
          rw [hnone] at ht
          cases ht
        exact judgeFrame_portOk hu _ _ ((raiseCsn_keepsPort s).ok hs)

theorem endRead_keepsPort (s : State) (n : Nat) : s.KeepsPort (s.endRead n) := by
  unfold State.endRead
  split
  · exact raiseCsn_keepsPort s
  · exact (raiseCsn_keepsPort s).trans (endReplyRead_keepsPort _ _ _)

/-! ## The port reset (R178) -/

/-- A port reset empties the queues; a PROGRAM_STORE that it abandons is still in progress, and so is the executor. -/
theorem portReset_keepsPort (s : State) : s.KeepsPort s.portReset := by
  unfold State.portReset
  split
  · exact .refl s
  · have hfour : 0 < Config.queuePlaces := by decide
    refine ⟨fun hs => ⟨Nat.zero_le _, Nat.zero_le _, ?_, fun _ _ => hfour, fun hd => ?_⟩, id⟩
    · exact hs.busy.trans Option.isSome_map.symm
    · obtain ⟨-, -, hp, -⟩ := hs.dead hd
      exact ⟨rfl, rfl, Option.map_eq_none_iff.mpr hp, rfl⟩

theorem portRelease_keepsPort (s : State) : s.KeepsPort s.portRelease := by
  unfold State.portRelease
  split
  · exact .trans (t := s.setPort { s.port with prstnLow := false }) ⟨fun hs => { hs with }, id⟩ (executor_keepsPort _)
  · exact .refl s

/-! ## The end of a programming millisecond (R155, R177) -/

theorem freeExecutor_keepsPort (s : State) : s.KeepsPort s.freeExecutor := by
  refine ⟨fun hs => { hs with busy := rfl, place := fun _ hp => (nomatch hp), dead := fun hd => ?_ }, id⟩
  obtain ⟨hq, hr, -, ht⟩ := hs.dead hd
  exact ⟨hq, hr, rfl, ht⟩

/-- The reply of a PROGRAM_STORE takes the place that was kept for it. -/
theorem report_keepsPort {pr : Programming} (hp : s.store.programming = some pr) (r : Reply) :
    s.KeepsPort (s.freeExecutor.pushReply r) := by
  refine ⟨fun hs => { (freeExecutor_keepsPort s).ok hs with
    replies := ?_
    place := fun _ hn => (nomatch hn)
    dead := fun hd => ?_ }, id⟩
  · have hplace := hs.place pr hp
    rw [State.pushReply, State.setPort_port, List.length_append]
    exact hplace
  · obtain ⟨-, -, hnone, -⟩ := hs.dead hd
    rw [hnone] at hp
    cases hp

theorem nextByte_keepsPort {pr : Programming} (hp : s.store.programming = some pr) (x : Programming) :
    s.KeepsPort (s.setProgramming (some x)) := by
  refine ⟨fun hs => { hs with
    busy := hs.busy.trans (by rw [hp]; rfl)
    place := fun _ _ => hs.place pr hp
    dead := fun hd => ?_ }, id⟩
  obtain ⟨-, -, hnone, -⟩ := hs.dead hd
  rw [hnone] at hp
  cases hp

theorem programByteDone_keepsPort (s : State) : s.KeepsPort s.programByteDone := by
  unfold State.programByteDone
  cases hd : s.programDue with
  | none => exact .refl s
  | some pr =>
    have harray : s.PortStands (s.setArray (pr.burn s.store.array)) := .of_items rfl rfl rfl
    have hburnt : (s.setArray (pr.burn s.store.array)).store.programming = some pr := programDue_some hd
    refine harray.keepsPort.trans ?_
    dsimp only
    generalize s.setArray (pr.burn s.store.array) = u at hburnt ⊢
    split
    · exact (freeExecutor_keepsPort u).trans (executor_keepsPort _)
    · split
      · exact (report_keepsPort hburnt _).trans (executor_keepsPort _)
      · exact nextByte_keepsPort hburnt _

/-! ## The supply (R143 to R147, R179) -/

/-- A port with empty queues, an IDLE executor, no transaction and no PROGRAM_STORE in progress meets the invariant in every supply
state. -/
theorem portOk_of_quiet (hq : s.port.requests = []) (hr : s.port.replies = []) (hb : s.port.executorBusy = false)
    (ht : s.port.transaction = none) (hp : s.store.programming = none) : s.PortOk where
  requests := by rw [hq]; exact Nat.zero_le _
  replies := by rw [hr]; exact Nat.zero_le _
  busy := by rw [hb, hp]; rfl
  place pr h := by rw [hp] at h; cases h
  dead _ := ⟨hq, hr, hp, ht⟩

theorem supplyLost_keepsPort (s : State) : s.KeepsPort s.supplyLost := by
  obtain ⟨array, n, h⟩ := supplyLost_eq s
  rw [h]
  exact ⟨fun _ => portOk_of_quiet rfl rfl rfl rfl rfl, addReasons_ok (by decide)⟩

theorem enterBackup_keepsPort (s : State) : s.KeepsPort s.enterBackup := by
  by_cases hup : s.supply.state = .backup
  · rw [State.enterBackup, if_pos hup]
    exact .refl s
  · rw [enterBackup_eq hup]
    have hblocks := (((abandonAll_stands s.supplyLost).trans (loseLine_stands _)).trans (darkenLight_stands _)).trans
      (forEach_stands releaseButton_stands allButtons _)
    exact (supplyLost_keepsPort s).trans hblocks.keepsPort

theorem powerUpValues_keepsPort (s : State) (b : Bool) : s.KeepsPort (s.powerUpValues b) :=
  ⟨fun _ => portOk_of_quiet rfl rfl rfl rfl rfl, fun _ => ⟨.nil, nofun⟩⟩

/-- The entry to RESTORING finds no PROGRAM_STORE in progress, since BACKUP has ended it. -/
theorem restored_keepsPort (hu : s.supply.state = .backup) : s.KeepsPort s.restored := by
  cases hv : s.supply.signatureValid with
  | true =>
    rw [restored_of_valid hv]
    refine ⟨fun hs => ?_, addReasons_ok (by decide)⟩
    obtain ⟨-, -, hp, -⟩ := hs.dead hu
    exact portOk_of_quiet rfl rfl rfl rfl hp
  | false =>
    rw [restored_of_invalid hv]
    exact ⟨fun _ => portOk_of_quiet rfl rfl rfl rfl rfl, fun _ => addReasons_ok (l := []) (by decide) ⟨.nil, nofun⟩⟩

theorem enterRestoring_keepsPort (hu : s.supply.state = .backup) : s.KeepsPort s.enterRestoring := by
  have hload : s.KeepsPort s.restoredLoading := by
    unfold State.restoredLoading
    split
    · exact (restored_keepsPort hu).trans (startLoad_stands _ .restore).keepsPort
    · exact restored_keepsPort hu
  rw [enterRestoring_eq]
  split
  · exact hload.trans (enterRun_stands _).keepsPort
  · exact hload

theorem mainsReturn_keepsPort (s : State) : s.KeepsPort s.mainsReturn := by
  unfold State.mainsReturn
  split
  · next hu =>
    split
    · exact (powerUpValues_keepsPort s _).trans (enterRestoring_keepsPort rfl)
    · exact enterRestoring_keepsPort hu
  · exact .refl s

theorem powerUp_keepsPort (s : State) (a b : Bool) : s.KeepsPort (s.powerUp a b) := by
  unfold State.powerUp
  dsimp only
  split
  · split
    · exact (powerUpValues_keepsPort s b).trans (enterRestoring_keepsPort rfl)
    · exact powerUpValues_keepsPort s b
  · exact .refl s

end

/-! ## A step -/

theorem exec_keepsPort {x : Instr} {s t : State} (hx : exec x s = .next t) : s.KeepsPort t := by
  have hrow {cmd tag : Byte} {p : List Byte} (he : (.next (s.submit cmd tag p) : Effect) = .next t) : s.KeepsPort t := by
    cases he; exact submit_keepsPort s cmd tag p
  have hevent {dt : Nat} {f : State → State} (hf : ∀ u : State, u.KeepsPort (f u))
      (he : (.next (f (s.elapse dt)) : Effect) = .next t) : s.KeepsPort t := by
    cases he; exact (elapse_stands s dt).keepsPort.trans (hf _)
  have hstand {dt : Nat} {f : State → State} (hf : ∀ u : State, u.PortStands (f u))
      (he : (.next (f (s.elapse dt)) : Effect) = .next t) : s.KeepsPort t := hevent (fun u => (hf u).keepsPort) he
  cases x with
  | transactionStart dt => exact hevent startTransaction_keepsPort hx
  | statusByteShifted dt => exact hstand statusShifted_stands hx
  | replyLatch dt => exact hevent latchReply_keepsPort hx
  | requestFrame dt bytes n => exact hevent (fun u => endRequest_keepsPort u bytes n) hx
  | replyReadEnd dt n => exact hevent (fun u => endRead_keepsPort u n) hx
  | portReset dt => exact hevent portReset_keepsPort hx
  | portResetRelease dt => exact hevent portRelease_keepsPort hx
  | programByteDone dt => exact hevent programByteDone_keepsPort hx
  | enterBackup dt => exact hevent enterBackup_keepsPort hx
  | mainsReturn dt => exact hevent mainsReturn_keepsPort hx
  | restoreCountdownExpiry dt => exact hstand countdownExpiry_stands hx
  | retainedSupplyLoss dt => exact hstand retainedLoss_stands hx
  | powerUp a b => cases hx; exact powerUp_keepsPort s a b
  | secondBoundary dt => exact hstand secondBoundary_stands hx
  | minuteEvaluation dt => exact hstand takeMinuteTick_stands hx
  | overrideCountdown dt => exact hstand takeClaimTick_stands hx
  | risingCrossing dt => exact hstand risingCrossing_stands hx
  | fallingCrossing dt => exact hstand fallingCrossing_stands hx
  | absenceTimeout dt => exact hstand absenceTimeout_stands hx
  | crystalStop dt => exact hstand stopCrystal_stands hx
  | crystalRun dt => exact hstand runCrystal_stands hx
  | crystalTick dt => exact hstand crystalTick_stands hx
  | coilAction dt c => exact hstand (fun u => coilAction_stands u c) hx
  | pulseStart dt c => exact hstand (fun u => pulseStart_stands u c) hx
  | operationComplete dt c => exact hstand (fun u => complete_stands u c) hx
  | buttonInputLow dt b => exact hstand (fun u => inputLow_stands u b) hx
  | buttonInputHigh dt b => exact hstand (fun u => inputHigh_stands u b) hx
  | buttonDebounceExpiry dt b => exact hstand (fun u => debounceExpiry_stands u b) hx
  | buttonReleaseConfirm dt b => exact hstand (fun u => releaseConfirm_stands u b) hx
  | longPress dt b => exact hstand (fun u => longPress_stands u b) hx
  | luxSample dt v => exact hstand (fun u => luxSample_stands u _) hx
  | loadStep dt => exact hstand loadStep_stands hx
  | restoreCountdownSecond dt => exact hstand countdownSecond_stands hx
  | _ => exact hrow hx

theorem setPending_stands (s : State) (x : List Instr) : s.PortStands (s.setPending x) := .of_items rfl rfl rfl

theorem step_keepsPort {s t : State} (hs : step s = .next t) : s.KeepsPort t := by
  unfold step at hs
  split at hs
  · exact .trans (setPending_stands s _).keepsPort (exec_keepsPort hs)
  · split at hs
    · exact exec_keepsPort hs
    · cases hs; exact (elapse_stands s 1).keepsPort

/-- Settles O13: every step is a change that keeps the port's invariant. -/
theorem stepKeepsPortInvariant : Obligations.StepKeepsPortInvariant := fun _ _ h hs => (step_keepsPort hs).ok h

/-- Settles O14: reasons added and items read keep the change set's form, and nothing else touches it. -/
theorem stepKeepsChangeSet : Obligations.StepKeepsChangeSet := fun _ _ h hs => (step_keepsPort hs).changes h

end Sys2Proof.Machine
end

/-! Request frames (R170, R172), the executor's test (R176), and the refusals of the commands (R180). -/

section
namespace Sys2Proof.Machine

/-- Settles O1: the step's own first case. -/
theorem stepTakesFrontCommand : Obligations.StepTakesFrontCommand := by
  intro i rest s h
  simp only [step, h]

/-! ## Host command rows (R170, R176) -/

section
variable {i : Instr} {c t : Byte} {p : List Byte}

/-- A host command row is its request, submitted to the port. -/
theorem exec_of_request (hr : i.request = some (c, t, p)) (s : State) : exec i s = .next (s.submit c t p) := by
  cases i <;> cases hr <;> rfl

theorem length_of_request (hw : i.wellFormed = true) (hr : i.request = some (c, t, p)) : p.length ≤ Config.maxParams := by
  refine of_decide_eq_true (?_ : paramsFit p = true)
  cases i with
  | unknownCommand cmd tag q =>
    cases hr
    exact (Bool.and_eq_true_iff.mp hw).1
  | _ => cases hr <;> exact hw

end

/-! ## The executor's test (R176) -/

section
variable {s : State}

theorem takeRequests_of_held (hf : s.executorFree = false) (n : Nat) : s.takeRequests n = s := by
  cases n with
  | zero => rfl
  | succ n =>
    unfold State.takeRequests
    split
    · rfl
    · exact if_neg (Bool.eq_false_iff.mp hf)

/-- An executor that cannot take a request leaves all of them waiting. -/
theorem executor_of_held (hf : s.executorFree = false) : s.executor = s := takeRequests_of_held hf _

theorem execute_requests (s : State) (rq : Request) : (s.execute rq).port.requests = s.port.requests := by
  unfold State.execute
  split
  · split
    · next hc => obtain ⟨pr, rfl⟩ := cmdProgramStore_ok hc; rfl
    · rfl
  · unfold State.answer
    split
    · next hc => exact (runCommand_stands _ _ _ _ _ hc).requests
    · rfl

/-- A test that is made for every request waiting ends with none of them waiting, or with an executor that cannot take one. -/
theorem takeRequests_drains {n : Nat} (hn : s.port.requests.length ≤ n) (hf : (s.takeRequests n).executorFree = true) :
    (s.takeRequests n).port.requests = [] := by
  induction n generalizing s with
  | zero => exact List.length_eq_zero_iff.mp (Nat.le_zero.mp hn)
  | succ n ih =>
    unfold State.takeRequests at hf ⊢
    split at hf
    · next he => simp only [he]
    · next rq rest hr =>
      have hrest : rest.length ≤ n := by rw [hr] at hn; exact Nat.le_of_succ_le_succ hn
      split at hf
      · next hfree =>
        simp only [if_pos hfree]
        exact ih (by rw [execute_requests]; exact hrest) hf
      · next hheld => exact absurd hf hheld

theorem executor_drains (hf : s.executor.executorFree = true) : s.executor.port.requests = [] :=
  takeRequests_drains (Nat.le_refl _) hf

theorem accept_of_held (hf : s.executorFree = false) (rq : Request) :
    s.accept rq = s.setPort { s.port with requests := s.port.requests ++ [rq] } :=
  executor_of_held (s := s.setPort { s.port with requests := s.port.requests ++ [rq] }) hf

/-! ## A request at the port (R168, R170) -/

variable {c t : Byte} {p : List Byte}

theorem submit_of_place (ha : s.portActive = true) (hp : p.length ≤ Config.maxParams)
    (hr : s.port.requests.length < Config.queuePlaces) : s.submit c t p = s.accept ⟨c, t, p⟩ := by
  rw [State.submit, if_pos ha, if_pos ⟨hp, hr⟩]

theorem submit_of_full (ha : s.portActive = true) (hr : Config.queuePlaces ≤ s.port.requests.length) :
    s.submit c t p = s.discardFrame := by
  rw [State.submit, if_pos ha, if_neg fun h => absurd h.2 (Nat.not_lt.mpr hr)]

theorem submit_of_inactive (ha : s.portActive = false) : s.submit c t p = s := if_neg (Bool.eq_false_iff.mp ha)

theorem executorFree_of_busy (hb : s.port.executorBusy = true) : s.executorFree = false := by simp [State.executorFree, hb]

theorem executorFree_of_full (hr : Config.queuePlaces ≤ s.port.replies.length) : s.executorFree = false := by
  simp [State.executorFree, Nat.not_lt.mpr hr]

end

/-- Settles O7: a BUSY executor's test takes nothing, and a test that has ended leaves nothing that it could take. -/
theorem requestsWaitForTheExecutor : Obligations.RequestsWaitForTheExecutor := by
  refine ⟨fun i c t p s hw hr => ?_, fun s => executor_drains⟩
  have hp := length_of_request hw hr
  rw [exec_of_request hr]
  refine ⟨fun ha hb hq => ?_, fun ha hq => ?_, fun ha => ?_⟩
  · rw [submit_of_place ha hp hq, accept_of_held (executorFree_of_busy hb)]
  · rw [submit_of_full ha hq]; rfl
  · rw [submit_of_inactive ha]

/-! ## Frames (R170, R172) -/

/-- The frame of a request that fits one reads back as that request. -/
theorem readFrame_frame {rq : Request} (hp : rq.params.length ≤ Config.maxParams) : readFrame rq.frame 0 = some rq := by
  have hn : (byteOf rq.params.length).toNat = rq.params.length := toNat_byteOf (by simp only [Config.maxParams] at hp; omega)
  simp [Request.frame, readFrame, hn, hp]

/-- What a frame that passes every check holds: SYNC, a length in range that the bytes agree with, whole bytes, and the CRC-8 of what
stands between SYNC and CRC. -/
theorem readFrame_some {bytes : List Byte} {odd : Nat} {rq : Request} (h : readFrame bytes odd = some rq) :
    bytes.head? = some 0x3C ∧ 4 ≤ bytes.length ∧ (bytes.getD 3 0).toNat ≤ 60 ∧
      bytes.length = (bytes.getD 3 0).toNat + 5 ∧ odd = 0 ∧
      crc8 ((bytes.drop 1).take ((bytes.getD 3 0).toNat + 3)) = bytes.getD (bytes.length - 1) 0 := by
  unfold readFrame at h
  split at h
  · next sync cmd tag len rest =>
    dsimp only at h
    split at h
    · next hc =>
      obtain ⟨rfl, hlen, hrest, hodd, hcrc⟩ := hc
      have hlast : rest[len.toNat]? = some (crc8 ([cmd, tag, len] ++ rest.take len.toNat)) := by
        rw [← List.getElem?_cons_zero (l := []), ← hcrc, List.getElem?_drop, Nat.add_zero]
      have hindex : (0x3C :: cmd :: tag :: len :: rest).length - 1 = len.toNat + 4 := by simp [hrest]
      refine ⟨rfl, by simp, hlen, by simp [hrest], hodd, ?_⟩
      rw [hindex, List.getD_eq_getElem?_getD (i := len.toNat + 4)]
      exact (congrArg (Option.getD · 0) hlast).symm
    · cases h
  · cases h

section
variable {s : State} {x : Transaction} {bytes : List Byte} {odd : Nat} {rq : Request}

theorem endRequest_of_none (ht : s.port.transaction = none) : s.endRequest bytes odd = s.raiseCsn := by
  simp only [State.endRequest, ht]

theorem endRequest_of_empty (ht : s.port.transaction = some x) : s.endRequest [] odd = s.raiseCsn := by
  simp only [State.endRequest, ht]

/-- A transaction whose first byte is not that of a reply read is a request, and its frame is judged (R168). -/
theorem endRequest_of_request (ht : s.port.transaction = some x) (hne : bytes ≠ []) (hk : bytes.head? ≠ some 0xC3) :
    s.endRequest bytes odd = s.raiseCsn.judgeFrame bytes odd := by
  obtain ⟨first, rest, rfl⟩ := List.exists_cons_of_ne_nil hne
  have hfirst : first ≠ 0xC3 := fun he => hk (congrArg some he)
  simp only [State.endRequest, ht, if_neg hfirst]

theorem endRequest_frame (ht : s.port.transaction = some x) :
    s.endRequest rq.frame 0 = s.raiseCsn.judgeFrame rq.frame 0 :=
  endRequest_of_request ht (by simp [Request.frame]) (by simp [Request.frame])

theorem judgeFrame_of_place (hf : readFrame bytes odd = some rq) (hr : s.port.requests.length < Config.queuePlaces) :
    s.judgeFrame bytes odd = s.accept rq := by
  simp only [State.judgeFrame, hf, if_pos hr]

theorem judgeFrame_of_full (hr : Config.queuePlaces ≤ s.port.requests.length) : s.judgeFrame bytes odd = s.discardFrame := by
  unfold State.judgeFrame
  split
  · exact if_neg (Nat.not_lt.mpr hr)
  · rfl

theorem judgeFrame_of_bad (hf : readFrame bytes odd = none) : s.judgeFrame bytes odd = s.discardFrame := by
  simp only [State.judgeFrame, hf]

/-- On an active port a frame is judged as its request is submitted. -/
theorem judgeFrame_frame (ha : s.portActive = true) (hp : rq.params.length ≤ Config.maxParams) :
    s.judgeFrame rq.frame 0 = s.submit rq.cmd rq.tag rq.params := by
  by_cases hr : s.port.requests.length < Config.queuePlaces
  · rw [judgeFrame_of_place (readFrame_frame hp) hr, submit_of_place ha hp hr]
  · rw [judgeFrame_of_full (Nat.not_lt.mp hr), submit_of_full ha (Nat.not_lt.mp hr)]

end

/-- Settles O5: the frame reads back as its request, which the port takes as it takes the row's. -/
theorem frameIsTheCommand : Obligations.FrameIsTheCommand := by
  refine ⟨fun i c t p s dt x hw hr ht ha => ?_, fun rq s dt x => ?_, fun s dt odd bytes ht => ?_⟩
  · have hframe : (s.elapse dt).raiseCsn.judgeFrame (Request.frame ⟨c, t, p⟩) 0 = (s.elapse dt).raiseCsn.submit c t p :=
      judgeFrame_frame ha (length_of_request hw hr)
    rw [exec_of_request hr, ← hframe, ← endRequest_frame ht]
    rfl
  · intro u v hp ht hq
    have hexec : exec (.requestFrame dt rq.frame 0) s = .next v.executor :=
      congrArg Host.Outcome.next ((endRequest_frame ht).trans (judgeFrame_of_place (readFrame_frame hp) hq))
    refine ⟨hexec, fun hheld => ?_, fun hready => ?_⟩
    · have hv : v.executorFree = false := hheld.elim executorFree_of_busy executorFree_of_full
      rw [hexec, executor_of_held hv]
    · rw [hexec, ← submit_ready hready rq.cmd rq.tag hp, submit_of_place hready.active hp hq]
      rfl
  · exact congrArg Host.Outcome.next (endRequest_of_none ht)

/-- Settles O6: a frame that fails a check does not read, and a good one finds no place in a full queue. -/
theorem badFramesAreDiscarded : Obligations.BadFramesAreDiscarded := by
  intro s dt odd x bytes ht
  have hexec : exec (.requestFrame dt bytes odd) s = .next ((s.elapse dt).endRequest bytes odd) := rfl
  rw [hexec]
  refine ⟨fun he => by rw [he, endRequest_of_empty ht], fun hne hk hbad => ?_⟩
  rw [endRequest_of_request ht hne hk]
  suffices h : (s.elapse dt).raiseCsn.judgeFrame bytes odd = (s.elapse dt).raiseCsn.discardFrame by rw [h]; rfl
  cases hf : readFrame bytes odd with
  | none => exact judgeFrame_of_bad hf
  | some rq =>
    obtain ⟨hsync, hfour, hrange, hlength, hodd, hcrc⟩ := readFrame_some hf
    rcases hbad with h | h | h | h | h | h | h
    · exact absurd hsync h
    · exact absurd h (Nat.not_lt.mpr hfour)
    · exact absurd h (Nat.not_lt.mpr hrange)
    · exact absurd hlength h
    · exact absurd hodd h
    · exact absurd hcrc h
    · exact judgeFrame_of_full h

/-! ## The port's own commands (R183, R185, R187) -/

/-- Settles O57: by the length. -/
theorem identifyReplies : Obligations.IdentifyReplies := by
  intro s tag p h hp
  refine ⟨fun hne => ?_, ?_⟩
  · have hrun : runCommand 0x72 p s = .error .badLength := by
      rw [show runCommand 0x72 p s = cmdIdentify p s from rfl, cmdIdentify, List.isEmpty_eq_false_iff.mpr hne, check_false]
    exact congrArg Host.Outcome.next (submit_refused h hp (by decide) hrun)
  · exact congrArg Host.Outcome.next (submit_replied h (Nat.zero_le _) (by decide) (by decide) rfl)

theorem cmdSetNoticeMask_of_length {p : List Byte} (h : p.length ≠ 1) (s : State) : cmdSetNoticeMask p s = .error .badLength := by
  unfold cmdSetNoticeMask
  split
  · exact absurd rfl h
  · rfl

theorem countKind_eq_countP (k : ChangeKind) (l : List ChangeItem) : countKind k l = l.countP fun i => i.kind == k :=
  List.countP_eq_length_filter.symm

theorem cmdSetNoticeMask_eq (m : Byte) (s : State) : cmdSetNoticeMask [m] s =
    check (m.toNat < 16) .badField (.ok (s.setPort { s.port with mask := m.setWidth 4 },
      m :: [ChangeKind.entry, .channel, .calendar, .system].map fun k => byteOf (s.port.changes.countP fun i => i.kind == k))) := by
  simp only [cmdSetNoticeMask, countKind_eq_countP]

/-- ATTN outside BACKUP: asserted for an item whose kind the mask admits (R184). -/
theorem attn_iff {s : State} (h : s.supply.state ≠ .backup) :
    s.attn = true ↔ ∃ i ∈ s.port.changes, s.port.mask.getLsbD i.kind.code = true := by
  simp [State.attn, h]

/-- The four bits of a mask byte that are stored are those of the four kinds. -/
theorem setWidth_getLsbD_code (m : Byte) (k : ChangeKind) : (m.setWidth 4).getLsbD k.code = m.getLsbD k.code := by
  rw [BitVec.getLsbD_setWidth]
  cases k <;> rfl

/-- Settles O58: by the length, then by the mask. -/
theorem setNoticeMaskStores : Obligations.SetNoticeMaskStores := by
  intro s tag m p h hp
  have hone : [m].length ≤ Config.maxParams := Nat.succ_le_succ (Nat.zero_le _)
  have hrun : runCommand 0x71 [m] s = _ := cmdSetNoticeMask_eq m s
  refine ⟨fun hne => ?_, fun hm => ?_, fun hm => ?_⟩
  · exact congrArg Host.Outcome.next (submit_refused h hp (by decide) (cmdSetNoticeMask_of_length hne s))
  · rw [decide_eq_false (Nat.not_lt.mpr hm), check_false] at hrun
    exact congrArg Host.Outcome.next (submit_refused h hone (by decide) hrun)
  · rw [decide_eq_true hm, check_true] at hrun
    refine ⟨_, rfl, congrArg Host.Outcome.next (submit_replied h hone (by decide) (by decide) hrun), ?_⟩
    refine (attn_iff ?_).trans ?_
    · exact not_backup_of_portActive h.active
    · simp only [← setWidth_getLsbD_code m]
      rfl

theorem cmdReadChanges_of_length {p : List Byte} (h : p.length ≠ 1) (s : State) : cmdReadChanges p s = .error .badLength := by
  unfold cmdReadChanges
  split
  · exact absurd rfl h
  · rfl

theorem cmdReadChanges_eq (n : Byte) (s : State) : cmdReadChanges [n] s =
    check (1 ≤ n.toNat && n.toNat ≤ 16) .badField
      (.ok (s.setPort { s.port with changes := s.port.changes.drop n.toNat },
        [byteOf (s.port.changes.take n.toNat).length, byteOf (s.port.changes.drop n.toNat).length] ++
        (s.port.changes.take n.toNat).flatMap fun i =>
          [byteOf i.kind.code, byteOf i.index] ++ twoBytes i.reasons.toNat)) := rfl

/-- Settles O59: by the length, then by the number asked for. -/
theorem readChangesDrains : Obligations.ReadChangesDrains := by
  intro s tag n p h hp
  have hone : [n].length ≤ Config.maxParams := Nat.succ_le_succ (Nat.zero_le _)
  have hrun : runCommand 0x70 [n] s = _ := cmdReadChanges_eq n s
  refine ⟨fun hne => ?_, fun hn => ?_, fun hn hmost => ?_⟩
  · exact congrArg Host.Outcome.next (submit_refused h hp (by decide) (cmdReadChanges_of_length hne s))
  · have hrange : (decide (1 ≤ n.toNat) && decide (n.toNat ≤ 16)) = false := by
      obtain rfl | hn := hn
      · rfl
      · rw [decide_eq_false (Nat.not_le.mpr hn), Bool.and_false]
    rw [hrange, check_false] at hrun
    exact congrArg Host.Outcome.next (submit_refused h hone (by decide) hrun)
  · rw [decide_eq_true (ne_zero_iff_one_le_toNat.mp hn), decide_eq_true hmost, Bool.and_true, check_true] at hrun
    exact congrArg Host.Outcome.next (submit_replied h hone (by decide) (by decide) hrun)

end Sys2Proof.Machine
end

/-! The refusals of the commands (R180): none is OK or ACCEPTED, and a code outside the catalogue is UNKNOWN_COMMAND. -/

section
namespace Sys2Proof.Machine

/-- Whatever a block refuses with is the RESULT of a refusal. -/
def Refuses {α : Type} (a : Except Result α) : Prop := ∀ r, a = .error r → r ≠ .ok ∧ r ≠ .accepted

section
variable {α β : Type} {r : Result}

@[simp] theorem refuses_ok (x : α) : Refuses (.ok x : Except Result α) := nofun

@[simp] theorem refuses_error : Refuses (.error r : Except Result α) ↔ r ≠ .ok ∧ r ≠ .accepted :=
  ⟨fun h => h r rfl, fun h _ he => by cases he; exact h⟩

/-- A check that refuses with the RESULT of a refusal, before a command that does so. -/
theorem refuses_check {ok : Bool} {a : Answer} (hr : r ≠ .ok ∧ r ≠ .accepted) (ha : Refuses a) : Refuses (check ok r a) := by
  cases ok
  · exact refuses_error.mpr hr
  · exact ha

/-- A command that hands on the refusal of what it shares with an item of a load. -/
theorem Refuses.handed_on {x : Except Result α} (hx : Refuses x) (h : x = .error r) :
    Refuses (.error r : Except Result β) := refuses_error.mpr (hx r h)

theorem withHandle_refuses {s : State} {slot gen : Byte} {go : SlotNo → Entry → Answer} (h : ∀ i e, Refuses (go i e)) :
    Refuses (s.withHandle slot gen go) := by
  unfold State.withHandle
  split
  · simp
  · split
    · simp
    · split
      · exact h _ _
      · simp

theorem handleCommand_refuses {p : List Byte} {s : State} {go : SlotNo → Entry → Answer} (h : ∀ i e, Refuses (go i e)) :
    Refuses (handleCommand p s go) := by
  refine refuses_check (by simp) ?_
  split
  · exact withHandle_refuses h
  · simp

end

section
variable (p : List Byte) (s : State)

/-! ## What a command shares with an item of a load -/

theorem makeEntry_refuses (o : Origin) (b : EntryBody) : Refuses (s.makeEntry o b) := by
  unfold State.makeEntry
  dsimp only
  split
  · simp
  · split <;> simp

theorem addExceptionItem_refuses (o : Origin) : Refuses (addExceptionItem o p s) := by
  unfold addExceptionItem State.addRecord
  dsimp only
  repeat' split
  all_goals simp

theorem configureItem_refuses : Refuses (configureItem p s) := by
  unfold configureItem
  repeat' split
  all_goals simp

theorem buttonItem_refuses : Refuses (buttonItem p s) := by
  unfold buttonItem
  repeat' split
  all_goals simp

theorem lightLimitsItem_refuses : Refuses (lightLimitsItem p s) := by
  unfold lightLimitsItem
  dsimp only
  repeat' split
  all_goals simp

theorem timeSourceItem_refuses : Refuses (timeSourceItem p s) := by
  unfold timeSourceItem
  repeat' split
  all_goals simp

theorem lineConfirmItem_refuses : Refuses (lineConfirmItem p s) := by
  unfold lineConfirmItem
  repeat' split
  all_goals simp

/-! ## The commands of the schedule blocks -/

theorem cmdCreateEntry_refuses : Refuses (cmdCreateEntry p s) := by
  refine refuses_check (by simp) (refuses_check (by simp) ?_)
  split
  · simp
  · split
    · next hm => exact (makeEntry_refuses s _ _).handed_on hm
    · simp

theorem cmdReadEntry_refuses : Refuses (cmdReadEntry p s) := by
  unfold cmdReadEntry
  split
  · exact withHandle_refuses fun _ _ => refuses_ok _
  · simp

theorem cmdModifyEntry_refuses : Refuses (cmdModifyEntry p s) := by
  refine refuses_check (by simp) ?_
  split
  · refine refuses_check (by simp) (withHandle_refuses fun i e => ?_)
    split
    · simp
    · exact refuses_check (by simp) (refuses_check (by simp) (refuses_ok _))
  · simp

theorem cmdFindEntries_refuses : Refuses (cmdFindEntries p s) := by
  unfold cmdFindEntries
  split
  · exact refuses_check (by simp) (refuses_ok _)
  · simp

theorem cmdAddException_refuses : Refuses (cmdAddException p s) := by
  refine refuses_check (by simp) ?_
  split
  · simp
  · next ha => exact (addExceptionItem_refuses p s _).handed_on ha

theorem cmdRemoveException_refuses : Refuses (cmdRemoveException p s) := by
  refine refuses_check (by simp) ?_
  split
  · split
    · exact refuses_check (by simp) (refuses_ok _)
    · simp
  · simp

theorem cmdListExceptions_refuses : Refuses (cmdListExceptions p s) := by
  unfold cmdListExceptions
  split
  · exact refuses_check (by simp) (refuses_ok _)
  · simp

theorem cmdDayClass_refuses : Refuses (cmdDayClass p s) := by
  unfold cmdDayClass
  split
  · split <;> simp
  · simp

theorem cmdOverride_refuses : Refuses (cmdOverride p s) := by
  unfold cmdOverride
  split
  · split
    · exact refuses_check (by simp) (refuses_ok _)
    · simp
  · simp

theorem cmdClearOverride_refuses : Refuses (cmdClearOverride p s) := by
  unfold cmdClearOverride
  split
  · exact refuses_check (by simp) (refuses_ok _)
  · simp

theorem cmdHold_refuses : Refuses (cmdHold p s) := by
  unfold cmdHold
  split
  · split
    · exact refuses_check (by simp) (refuses_ok _)
    · simp
  · simp

theorem cmdReleaseHold_refuses : Refuses (cmdReleaseHold p s) := by
  unfold cmdReleaseHold
  split
  · exact refuses_check (by simp) (refuses_ok _)
  · simp

theorem cmdReadChannel_refuses : Refuses (cmdReadChannel p s) := by
  unfold cmdReadChannel
  split
  · split
    · simp
    · exact refuses_check (by simp) (refuses_ok _)
  · simp

/-! ## The commands of the other blocks -/

theorem cmdConfigureChannel_refuses : Refuses (cmdConfigureChannel p s) := by
  refine refuses_check (by simp) ?_
  split
  · next hi => exact (configureItem_refuses p s).handed_on hi
  · simp

theorem cmdSetStagger_refuses : Refuses (cmdSetStagger p s) := by
  unfold cmdSetStagger
  split
  · exact refuses_check (by simp) (refuses_ok _)
  · simp

theorem cmdConfigureButton_refuses : Refuses (cmdConfigureButton p s) := by
  refine refuses_check (by simp) ?_
  split
  · next hi => exact (buttonItem_refuses p s).handed_on hi
  · simp

theorem cmdReadButton_refuses : Refuses (cmdReadButton p s) := by
  unfold cmdReadButton
  split
  · split <;> simp
  · simp

theorem cmdSetLightLimits_refuses : Refuses (cmdSetLightLimits p s) := by
  refine refuses_check (by simp) ?_
  split
  · next hi => exact (lightLimitsItem_refuses p s).handed_on hi
  · simp

theorem cmdSetTime_refuses : Refuses (cmdSetTime p s) := by
  unfold cmdSetTime
  split
  · split
    · simp
    · exact refuses_check (by simp) (refuses_ok _)
  · simp

theorem cmdSetTimeSource_refuses : Refuses (cmdSetTimeSource p s) := by
  unfold cmdSetTimeSource
  split
  · next hi => exact (timeSourceItem_refuses p s).handed_on hi
  · simp

theorem cmdSetLineConfirm_refuses : Refuses (cmdSetLineConfirm p s) := by
  unfold cmdSetLineConfirm
  split
  · next hi => exact (lineConfirmItem_refuses p s).handed_on hi
  · simp

theorem cmdSetSupply_refuses : Refuses (cmdSetSupply p s) := by
  unfold cmdSetSupply
  split <;> simp

theorem cmdReadStore_refuses : Refuses (cmdReadStore p s) := by
  unfold cmdReadStore
  split
  · exact refuses_check (by simp) (refuses_ok _)
  · simp

theorem cmdProgramStore_refuses (tag : Byte) : Refuses (cmdProgramStore p tag s) := by
  unfold cmdProgramStore
  repeat' split
  all_goals simp

theorem cmdReadChanges_refuses : Refuses (cmdReadChanges p s) := by
  unfold cmdReadChanges
  split
  · exact refuses_check (by simp) (refuses_ok _)
  · simp

theorem cmdSetNoticeMask_refuses : Refuses (cmdSetNoticeMask p s) := by
  unfold cmdSetNoticeMask
  split
  · exact refuses_check (by simp) (refuses_ok _)
  · simp

end

/-- No command of the catalogue refuses with OK or ACCEPTED. -/
theorem runCommand_refuses (cmd : Byte) (p : List Byte) (s : State) : Refuses (runCommand cmd p s) := by
  have hread {q : List Byte} : Refuses (check p.isEmpty .badLength (.ok (s, q))) := refuses_check (by simp) (refuses_ok _)
  unfold runCommand
  split
  · exact cmdCreateEntry_refuses p s
  · exact cmdReadEntry_refuses p s
  · exact cmdModifyEntry_refuses p s
  · exact handleCommand_refuses fun _ _ => refuses_check (by simp) (refuses_ok _)
  · exact handleCommand_refuses fun _ _ => refuses_check (by simp) (refuses_ok _)
  · exact handleCommand_refuses fun _ _ => refuses_ok _
  · exact handleCommand_refuses fun _ _ => refuses_check (by simp) (refuses_ok _)
  · exact handleCommand_refuses fun _ _ => refuses_check (by simp) (refuses_ok _)
  · exact cmdFindEntries_refuses p s
  · exact refuses_check (by simp) (refuses_check (by simp) (refuses_ok _))
  · exact cmdAddException_refuses p s
  · exact cmdRemoveException_refuses p s
  · exact cmdListExceptions_refuses p s
  · exact cmdDayClass_refuses p s
  · exact cmdOverride_refuses p s
  · exact cmdClearOverride_refuses p s
  · exact cmdHold_refuses p s
  · exact cmdReleaseHold_refuses p s
  · exact cmdReadChannel_refuses p s
  · exact cmdConfigureChannel_refuses p s
  · exact cmdSetStagger_refuses p s
  · exact cmdConfigureButton_refuses p s
  · exact cmdReadButton_refuses p s
  · exact cmdSetLightLimits_refuses p s
  · exact hread
  · exact cmdSetTime_refuses p s
  · exact hread
  · exact cmdSetTimeSource_refuses p s
  · exact cmdSetLineConfirm_refuses p s
  · exact hread
  · exact cmdSetSupply_refuses p s
  · exact hread
  · exact cmdReadStore_refuses p s
  · exact refuses_check (by simp) (refuses_check (by simp) (refuses_ok _))
  · exact hread
  · exact cmdReadChanges_refuses p s
  · exact cmdSetNoticeMask_refuses p s
  · exact hread
  · simp

/-! ## A command on a ready port (R176, R177, R180) -/

/-- A code that the catalogue does not have is UNKNOWN_COMMAND. -/
theorem runCommand_of_unlisted {cmd : Byte} (h : catalogue.contains cmd.toNat = false) (p : List Byte) (s : State) :
    runCommand cmd p s = .error .unknownCommand := by
  unfold runCommand
  split
  case h_39 => rfl
  all_goals next hcmd => rw [hcmd] at h; exact absurd h (by decide)

theorem execute_refused {s : State} {rq : Request} {r : Result} (hc : rq.cmd ≠ 0x69)
    (h : runCommand rq.cmd rq.params s = .error r) : s.execute rq = s.pushReply ⟨rq.tag, rq.cmd, r, []⟩ := by
  rw [State.execute, if_neg hc, h]
  rfl

theorem execute_taken {s u : State} {rq : Request} {q : List Byte} (hc : rq.cmd ≠ 0x69)
    (h : runCommand rq.cmd rq.params s = .ok (u, q)) :
    s.execute rq = u.pushReply ⟨rq.tag, rq.cmd, takenResult rq.cmd, q⟩ := by
  rw [State.execute, if_neg hc, h]
  rfl

theorem execute_program_refused {s : State} {rq : Request} {r : Result} (hc : rq.cmd = 0x69)
    (h : cmdProgramStore rq.params rq.tag s = .error r) : s.execute rq = s.pushReply ⟨rq.tag, rq.cmd, r, []⟩ := by
  rw [State.execute, if_pos hc, h]
  rfl

theorem execute_program_taken {s u : State} {rq : Request} (hc : rq.cmd = 0x69)
    (h : cmdProgramStore rq.params rq.tag s = .ok u) : s.execute rq = u := by
  rw [State.execute, if_pos hc, h]

/-- Settles O8: PROGRAM_STORE by its own answer, any other request by its block's, which leaves the port to the executor. -/
theorem refusalsChangeNothing : Obligations.RefusalsChangeNothing := by
  refine ⟨fun i c t p s h hw hr => ?_, fun s cmd tag p h hp hlist => ?_⟩
  · rw [exec_of_request hr, submit_ready h c t (length_of_request hw hr)]
    by_cases hc : c = 0x69
    · subst hc
      cases hcmd : cmdProgramStore p t s with
      | error r =>
        obtain ⟨hok, hacc⟩ := cmdProgramStore_refuses p s t r hcmd
        exact .inl ⟨r, hok, hacc, congrArg _ (execute_program_refused rfl hcmd)⟩
      | ok u =>
        obtain ⟨pr, rfl⟩ := cmdProgramStore_ok hcmd
        exact .inr (.inr ⟨_, rfl, congrArg _ (execute_program_taken rfl hcmd), rfl, rfl⟩)
    · cases hcmd : runCommand c p s with
      | error r =>
        obtain ⟨hok, hacc⟩ := runCommand_refuses c p s r hcmd
        exact .inl ⟨r, hok, hacc, congrArg _ (execute_refused hc hcmd)⟩
      | ok x =>
        obtain ⟨u, q⟩ := x
        have hu := runCommand_stands c p s u q hcmd
        refine .inr (.inl ⟨_, q, congrArg _ (execute_taken hc hcmd), ?_, ?_, ?_⟩)
        · exact congrArg (· ++ _) hu.replies
        · exact hu.requests.trans h.empty
        · exact hu.busy.trans h.idle
  · have hc : cmd ≠ 0x69 := by rintro rfl; exact absurd hlist (by decide)
    exact congrArg _ (submit_refused h hp hc (runCommand_of_unlisted hlist p s))

end Sys2Proof.Machine
end

/-! The target crossing of an aligned operation (R94, R137), and the instants of an operation: the coil action, the start of a pulse and the
completion (R95, R96, R98). -/

section
namespace Sys2Proof.Machine

/-! ## The target crossing (R94, R137) -/

/-- A crossing lies no earlier than `need` cycles after the last one exactly when its half periods, before their rounding, exceed
`need` less a half. -/
theorem le_halfPeriods_iff (k period need : Nat) : need ≤ halfPeriods k period ↔ 2 * need - 1 ≤ k * period := by
  unfold halfPeriods
  omega

theorem halfPeriods_mono {k l : Nat} (h : k ≤ l) (period : Nat) : halfPeriods k period ≤ halfPeriods l period :=
  Nat.div_le_div_right (Nat.add_le_add_right (Nat.mul_le_mul_right period h) 1)

/-- Of the half periods from the first on, those not before the target half are the ones that lie far enough. -/
theorem targetHalf_le_iff {k period : Nat} (hp : 0 < period) (hk : 1 ≤ k) (need : Nat) :
    targetHalf period need ≤ k ↔ need ≤ halfPeriods k period := by
  rw [le_halfPeriods_iff, mul_comm k, ← ceilDiv_le_iff_le_mul hp, Nat.ceilDiv_eq_add_pred_div, targetHalf, max_le_iff]
  exact and_iff_right hk

/-- Settles O37: the target half is the least half period that lies far enough. -/
theorem targetCrossingIsEarliest : Obligations.TargetCrossingIsEarliest := by
  intro last period now delay hp hl c
  have hfirst : 1 ≤ targetHalf period (now + delay - last) := le_max_left 1 _
  have hreach := (targetHalf_le_iff hp hfirst _).mp le_rfl
  refine ⟨Nat.sub_le_iff_le_add'.mp hreach, ⟨_, hfirst, rfl⟩, fun k hk h => ?_⟩
  have hhalf := (targetHalf_le_iff hp hk _).mpr (Nat.sub_le_iff_le_add'.mpr h)
  exact Nat.add_le_add_left (halfPeriods_mono hhalf period) last

/-! ## When an instant of an operation is due (R95, R96, R98) -/

section
variable {s : State} {c : Chan} {op : Operation}

theorem coilDue_iff : s.coilDue c = some op ↔ (s.chan c).switch = .issued op ∧ (s.chan c).config.kind = .mono ∧
    op.acted = false ∧ op.actionAt ≤ s.cycles := by
  unfold State.coilDue
  cases hs : (s.chan c).switch with
  | issued x =>
    simp only [Option.ite_none_right_eq_some, Option.some.injEq, SwitchState.issued.injEq, Bool.not_eq_true']
    constructor
    · rintro ⟨h, rfl⟩; exact ⟨rfl, h⟩
    · rintro ⟨rfl, h⟩; exact ⟨h, rfl⟩
  | _ => simp

theorem pulseDue_iff : s.pulseDue c = some op ↔ (s.chan c).switch = .issued op ∧ (s.chan c).config.kind = .bi ∧
    op.actionAt ≤ s.cycles := by
  unfold State.pulseDue
  cases hs : (s.chan c).switch with
  | issued x =>
    simp only [Option.ite_none_right_eq_some, Option.some.injEq, SwitchState.issued.injEq]
    constructor
    · rintro ⟨h, rfl⟩; exact ⟨rfl, h⟩
    · rintro ⟨rfl, h⟩; exact ⟨h, rfl⟩
  | _ => simp

theorem completionDue_iff : s.completionDue c = some op ↔ op.completeAt ≤ s.cycles ∧
    ((s.chan c).switch = .issued op ∧ (s.chan c).config.kind = .mono ∧ op.acted = true ∨ (s.chan c).switch = .pulsing op) := by
  unfold State.completionDue
  cases hs : (s.chan c).switch with
  | issued x =>
    simp only [Option.ite_none_right_eq_some, Option.some.injEq, SwitchState.issued.injEq, reduceCtorEq, or_false]
    constructor
    · rintro ⟨⟨hk, ha, h⟩, rfl⟩; exact ⟨h, rfl, hk, ha⟩
    · rintro ⟨h, rfl, hk, ha⟩; exact ⟨⟨hk, ha, h⟩, rfl⟩
  | pulsing x =>
    simp only [Option.ite_none_right_eq_some, Option.some.injEq, SwitchState.pulsing.injEq, reduceCtorEq, false_and, false_or]
    constructor
    · rintro ⟨h, rfl⟩; exact ⟨h, rfl⟩
    · rintro ⟨h, rfl⟩; exact ⟨h, rfl⟩
  | _ => simp

/-! ## The instants of an operation (R95, R96, R98) -/

theorem coilAction_of_due (h : s.coilDue c = some op) : s.coilAction c =
    s.setChan c (({ s.chan c with switch := .issued { op with acted := true } }).drive op.pin op.intended) := by
  rw [State.coilAction, h]

theorem pulseStart_of_due (h : s.pulseDue c = some op) :
    s.pulseStart c = s.setChan c (({ s.chan c with switch := .pulsing op }).drive op.pin true) := by
  rw [State.pulseStart, h]

theorem ofTarget_inj {a b : Bool} : Driven.ofTarget a = Driven.ofTarget b ↔ a = b := by
  cases a <;> cases b <;> simp [Driven.ofTarget]

/-- A channel whose operation is complete, its reason raised, before the target is looked at (R98). -/
def State.settled (s : State) (c : Chan) (op : Operation) : State :=
  (s.setChan c ((s.chan c).completed op)).raiseChannel c .drivenChanged

theorem settled_chan (s : State) (c d : Chan) (op : Operation) :
    (s.settled c op).chan d = if c = d then (s.chan c).completed op else s.chan d := chan_setChan s c d _

theorem complete_of_due (h : s.completionDue c = some op) : s.complete c =
    if op.intended = (s.chan c).target then s.settled c op else (s.settled c op).enqueue c := by
  have hself : (s.settled c op).chan c = (s.chan c).completed op := by rw [settled_chan, if_pos rfl]
  have hdriven : ((s.chan c).completed op).driven = Driven.ofTarget op.intended := rfl
  have htarget := (completed_claims (s.chan c) op).2.1
  unfold State.complete
  rw [h]
  change (if ((s.settled c op).chan c).driven = Driven.ofTarget ((s.settled c op).chan c).target then _ else _) = _
  rw [hself, hdriven, htarget]
  exact if_congr ofTarget_inj rfl rfl

end

/-- Settles O38: each instant is due, and its equation is the rule's next state. -/
theorem operationInstants : Obligations.OperationInstants := by
  intro s dt c op u ch
  refine ⟨fun hk hs ha hp hd => ?_, fun hk hs hd => ?_, fun hk hs ha hd => ?_, fun hk hs hd => ?_⟩
  · have hcoil := coilAction_of_due (coilDue_iff.mpr ⟨hs, hk, ha, hd⟩)
    have hdrive (x : Channel) : x.drive op.pin op.intended = { x with pinA := op.intended } := by rw [hp]; rfl
    exact congrArg _ (hcoil.trans (congrArg _ (hdrive _)))
  · have hpulse := pulseStart_of_due (pulseDue_iff.mpr ⟨hs, hk, hd⟩)
    refine congrArg _ (hpulse.trans ?_)
    cases op.pin <;> rfl
  · have hcomplete := complete_of_due (completionDue_iff.mpr ⟨hd, .inl ⟨hs, hk, ha⟩⟩)
    have hch : ch.completed op = { ch with
        driven := Driven.ofTarget op.intended, lastCompletion := some op.completeAt, switch := .idle } := by
      simp [Channel.completed, hk]
    rw [State.settled, hch] at hcomplete
    exact congrArg _ hcomplete
  · have hcomplete := complete_of_due (completionDue_iff.mpr ⟨hd, .inr hs⟩)
    have hch : ch.completed op = { ch.drive op.pin false with
        driven := Driven.ofTarget op.intended, lastCompletion := some op.completeAt, switch := .idle } := by
      simp [Channel.completed, hk]
    rw [State.settled, hch] at hcomplete
    refine congrArg _ (hcomplete.trans ?_)
    cases op.pin <;> rfl

end Sys2Proof.Machine
end

/-! The grants of a slot (R90, R91), and the commands of the Switching Engine (R83, R84, R93). -/

section
namespace Sys2Proof.Machine

/-! ## Grants (R91, R92) -/

/-- The channel as a grant at `s` leaves it (R91, R94). -/
def State.granted (s : State) (c : Chan) : Channel :=
  { s.chan c with switch := .issued ((s.chan c).operation s.cycles (s.alignment c)) }

theorem grant_chan (s : State) (c d : Chan) : (s.grant c).chan d = if c = d then s.granted c else s.chan d :=
  chan_setSwitch s c d _

/-- A grant of another channel does not change what a grant would make of a channel. -/
theorem granted_grant (s : State) {c d : Chan} (h : c ≠ d) : (s.grant c).granted d = s.granted d := by
  have hd : (s.grant c).chan d = s.chan d := by rw [grant_chan, if_neg h]
  simp only [State.granted, State.alignment, hd]
  rfl

/-- The requests of a list that a slot grants with `room` grants to give (R91). -/
def State.grants (s : State) (cs : List Chan) (room : Nat) : List Chan :=
  (cs.filter fun c => (s.chan c).dwellElapsed s.cycles).take room

theorem grants_sublist (s : State) (cs : List Chan) (room : Nat) : (s.grants cs room).Sublist cs :=
  (List.take_sublist _ _).trans List.filter_sublist

theorem grants_zero (s : State) (cs : List Chan) : s.grants cs 0 = [] := List.take_zero

theorem grants_of_elapsed {s : State} {c : Chan} (h : (s.chan c).dwellElapsed s.cycles = true) {cs : List Chan} (hc : c ∉ cs)
    (room : Nat) : s.grants (c :: cs) (room + 1) = c :: (s.grant c).grants cs room := by
  have hcongr : cs.filter (fun d => ((s.grant c).chan d).dwellElapsed (s.grant c).cycles) =
      cs.filter fun d => (s.chan d).dwellElapsed s.cycles := by
    refine List.filter_congr fun d hd => ?_
    rw [grant_chan, if_neg (ne_of_mem_of_not_mem hd hc).symm]
    rfl
  rw [State.grants, State.grants, hcongr, List.filter_cons_of_pos (p := fun d => (s.chan d).dwellElapsed s.cycles) h,
    List.take_succ_cons]

theorem grants_of_waiting {s : State} {c : Chan} (h : (s.chan c).dwellElapsed s.cycles = false) (cs : List Chan) (room : Nat) :
    s.grants (c :: cs) room = s.grants cs room := by
  rw [State.grants, List.filter_cons_of_neg (by rw [h]; exact Bool.false_ne_true), State.grants]

/-- A scan leaves the requests that it does not grant, in order, and gives each channel granted its operation (R91). -/
theorem scanQueue_spec {cs : List Chan} (hcs : cs.Nodup) (room : Nat) (s : State) :
    (scanQueue s cs room).2 = cs.filter (fun c => !(s.grants cs room).contains c) ∧
    (scanQueue s cs room).1.engine = s.engine ∧
    ∀ d, (scanQueue s cs room).1.chan d = if d ∈ s.grants cs room then s.granted d else s.chan d := by
  induction cs generalizing s room with
  | nil => simp [scanQueue, State.grants]
  | cons c cs ih =>
    obtain ⟨hc, hcs⟩ := List.nodup_cons.mp hcs
    cases room with
    | zero => simp [scanQueue, grants_zero]
    | succ room =>
      unfold scanQueue
      cases helapsed : (s.chan c).dwellElapsed s.cycles with
      | true =>
        obtain ⟨hkept, hengine, hchan⟩ := ih hcs room (s.grant c)
        rw [grants_of_elapsed helapsed hc, if_pos rfl]
        refine ⟨?_, hengine, fun d => ?_⟩
        · rw [hkept, List.filter_cons_of_neg (by simp)]
          refine List.filter_congr fun d hd => ?_
          simp [ne_of_mem_of_not_mem hd hc]
        · rw [hchan]
          by_cases hd : c = d
          · subst hd
            have hout : c ∉ (s.grant c).grants cs room := fun h => hc ((grants_sublist _ cs room).subset h)
            rw [if_neg hout, grant_chan, if_pos rfl, if_pos List.mem_cons_self]
          · simp only [granted_grant s hd, grant_chan, if_neg hd, List.mem_cons, Ne.symm hd, false_or]
      | false =>
        obtain ⟨hkept, hengine, hchan⟩ := ih hcs (room + 1) s
        have hout : c ∉ s.grants cs (room + 1) := fun h => hc ((grants_sublist s cs _).subset h)
        rw [grants_of_waiting helapsed, if_neg Bool.false_ne_true]
        refine ⟨?_, hengine, hchan⟩
        rw [List.filter_cons_of_pos (by simp [hout]), ← hkept]

/-- What a slot does when no channel is in the queue twice (R91). -/
theorem switchingSlot_spec {s : State} (h : s.engine.queue.Nodup) :
    s.switchingSlot.engine = { s.engine with
      queue := s.engine.queue.filter (fun c => !(s.grants s.engine.queue s.engine.stagger).contains c) } ∧
    ∀ d, s.switchingSlot.chan d =
      if d ∈ s.grants s.engine.queue s.engine.stagger then s.granted d else s.chan d := by
  obtain ⟨hkept, hengine, hchan⟩ := scanQueue_spec h s.engine.stagger s
  refine ⟨?_, hchan⟩
  change { (scanQueue s s.engine.queue s.engine.stagger).1.engine with
    queue := (scanQueue s s.engine.queue s.engine.stagger).2 } = _
  rw [hengine, hkept]

/-- Settles O36: the tick by whether it is due, the slot by the scan of its queue. -/
theorem slotGrantsFromTheHead : Obligations.SlotGrantsFromTheHead :=
  ⟨fun _ _ => ⟨fun h => congrArg _ (if_pos h), fun h => congrArg _ (if_neg (by rw [h]; exact Bool.false_ne_true))⟩,
    fun _ h => switchingSlot_spec h⟩

/-! ## CONFIGURE_CHANNEL and SET_STAGGER (R83, R84, R93) -/

theorem dequeue_chan (s : State) (c d : Chan) :
    (s.dequeue c).chan d = if c = d then { s.chan c with switch := .idle } else s.chan d := chan_setSwitch s c d _

theorem enqueue_chan (s : State) (c d : Chan) :
    (s.enqueue c).chan d = if c = d then { s.chan c with switch := .queued } else s.chan d := chan_setSwitch s c d _

/-- A target change moves its channel between IDLE and QUEUED at most (R88). -/
theorem targetArrives_chan (s : State) (c : Chan) (t : Bool) :
    ∃ x, (s.targetArrives c t).chan c = { s.chan c with switch := x } := by
  obtain h | h | h := targetArrives_cases s c t <;> rw [h]
  · exact ⟨(s.chan c).switch, rfl⟩
  · exact ⟨.queued, by rw [enqueue_chan, if_pos rfl]⟩
  · exact ⟨.idle, by rw [dequeue_chan, if_pos rfl]⟩

/-- The state with a channel's target computed afresh, before the Switching Engine hears of it (R62, R63). -/
def State.retargeted (s : State) (c : Chan) : State :=
  (s.setChan c { s.chan c with target := (s.chan c).wanted }).raiseChannel c .targetChanged

theorem retargeted_chan (s : State) (c d : Chan) :
    (s.retargeted c).chan d = if c = d then { s.chan c with target := (s.chan c).wanted } else s.chan d := chan_setChan s c d _

theorem retarget_of_same {s : State} {c : Chan} (h : (s.chan c).wanted = (s.chan c).target) : s.retarget c = s := if_pos h

theorem retarget_of_changed {s : State} {c : Chan} (h : (s.chan c).wanted ≠ (s.chan c).target) :
    s.retarget c = (s.retargeted c).targetArrives c (s.chan c).wanted := if_neg h

/-- A target computed afresh changes its channel's target and its place in the queue at most (R62, R88). -/
theorem retarget_chan (s : State) (c : Chan) :
    ∃ b x, (s.retarget c).chan c = { s.chan c with target := b, switch := x } := by
  by_cases h : (s.chan c).wanted = (s.chan c).target
  · exact ⟨(s.chan c).target, (s.chan c).switch, by rw [retarget_of_same h]⟩
  · obtain ⟨x, hx⟩ := targetArrives_chan (s.retargeted c) c (s.chan c).wanted
    exact ⟨(s.chan c).wanted, x, by rw [retarget_of_changed h, hx, retargeted_chan, if_pos rfl]⟩

/-- The reconciliation test applies: a MONO or BI channel, IDLE in RUN, whose target differs from its driven state (R83, R89). -/
def State.outOfStep (s : State) (c : Chan) : Bool :=
  (s.chan c).config.kind != .unused && (s.chan c).switch == .idle && s.supply.state == .run &&
    (s.chan c).driven != Driven.ofTarget (s.chan c).target

theorem outOfStep_iff (s : State) (c : Chan) : s.outOfStep c = true ↔ (s.chan c).config.kind ≠ .unused ∧
    (s.chan c).switch = .idle ∧ s.supply.state = .run ∧ (s.chan c).driven ≠ Driven.ofTarget (s.chan c).target := by
  simp only [State.outOfStep, Bool.and_eq_true, bne_iff_ne, beq_iff_eq, and_assoc]

theorem reconcile_of_outOfStep {s : State} {c : Chan} (h : s.outOfStep c = true) : s.reconcile c = s.enqueue c :=
  if_pos ((outOfStep_iff s c).mp h)

theorem reconcile_of_inStep {s : State} {c : Chan} (h : s.outOfStep c = false) : s.reconcile c = s :=
  if_neg fun hn => Bool.false_ne_true (h.symm.trans ((outOfStep_iff s c).mpr hn))

theorem reconcile_chan (s : State) (c : Chan) : ∃ x, (s.reconcile c).chan c = { s.chan c with switch := x } := by
  cases h : s.outOfStep c with
  | true => exact ⟨.queued, by rw [reconcile_of_outOfStep h, enqueue_chan, if_pos rfl]⟩
  | false => exact ⟨(s.chan c).switch, by rw [reconcile_of_inStep h]⟩

/-- A channel with a configuration stored: a change of kind gives it a fresh record (R84). -/
def Channel.configured (ch : Channel) (cfg : ChannelConfig) : Channel :=
  if cfg.kind = ch.config.kind then { ch with config := cfg }
  else { ch with
    config := cfg, driven := cfg.kind.freshDriven, switch := .idle, lastCompletion := none, pinA := false, pinB := false }

theorem storeConfig_of_kind {s : State} {c : Chan} {cfg : ChannelConfig} (h : cfg.kind = (s.chan c).config.kind) :
    s.storeConfig c cfg = s.setChan c { s.chan c with config := cfg } := if_pos h

theorem storeConfig_of_other {s : State} {c : Chan} {cfg : ChannelConfig} (h : cfg.kind ≠ (s.chan c).config.kind) :
    s.storeConfig c cfg = (s.setChan c { s.chan c with config := cfg }).changeKind c cfg.kind := if_neg h

theorem reportDriven_chan (s : State) (c d : Chan) (x : Driven) : (s.reportDriven c x).chan d = s.chan d := by
  unfold State.reportDriven
  split <;> rfl

theorem reportDriven_engine (s : State) (c : Chan) (x : Driven) : (s.reportDriven c x).engine = s.engine := by
  unfold State.reportDriven
  split <;> rfl

theorem changeKind_chan (s : State) (c : Chan) (k : ChannelKind) : (s.changeKind c k).chan c = { s.chan c with
    driven := k.freshDriven, switch := .idle, lastCompletion := none, pinA := false, pinB := false } := by
  rw [State.changeKind, reportDriven_chan, chan_setChan, if_pos rfl, dequeue_chan, if_pos rfl]

theorem storeConfig_chan (s : State) (c : Chan) (cfg : ChannelConfig) :
    (s.storeConfig c cfg).chan c = (s.chan c).configured cfg := by
  have hself : (s.setChan c { s.chan c with config := cfg }).chan c = { s.chan c with config := cfg } := by
    rw [chan_setChan, if_pos rfl]
  by_cases h : cfg.kind = (s.chan c).config.kind
  · rw [storeConfig_of_kind h, hself, Channel.configured, if_pos h]
  · rw [storeConfig_of_other h, changeKind_chan, hself, Channel.configured, if_neg h]

/-- CONFIGURE_CHANNEL leaves its channel as configured, but for the target and the place in the queue. -/
theorem applyConfig_chan (s : State) (c : Chan) (cfg : ChannelConfig) :
    ∃ b x, (s.applyConfig c cfg).chan c = { (s.chan c).configured cfg with target := b, switch := x } := by
  rw [applyConfig_eq]
  obtain ⟨x, hx⟩ := reconcile_chan (if cfg.rest = (s.chan c).config.rest then s.storeConfig c cfg
    else (s.storeConfig c cfg).retarget c) c
  rw [hx]
  split
  · exact ⟨((s.chan c).configured cfg).target, x, by rw [storeConfig_chan]⟩
  · obtain ⟨b, y, hy⟩ := retarget_chan (s.storeConfig c cfg) c
    exact ⟨b, x, by rw [hy, storeConfig_chan]⟩

theorem applyConfig_others (s : State) {c d : Chan} (h : d ≠ c) (cfg : ChannelConfig) :
    (s.applyConfig c cfg).chan d = s.chan d := by
  rw [(applyConfig_onChannels s c cfg).others d h, chan_setChan, if_neg (Ne.symm h)]

theorem cmdConfigureChannel_of_refused {s : State} {p : List Byte} {r : Result} (hl : s.loadRunning = false)
    (h : configureItem p s = .error r) : cmdConfigureChannel p s = .error r := by
  rw [cmdConfigureChannel, hl, h]
  rfl

theorem cmdConfigureChannel_of_taken {s t : State} {p : List Byte} {c : Chan} (hl : s.loadRunning = false)
    (h : configureItem p s = .ok (c, t)) : cmdConfigureChannel p s =
      .ok (t, [if (t.chan c).target then 1 else 0, (t.chan c).driven.code, (t.chan c).switch.code]) := by
  rw [cmdConfigureChannel, hl, h]
  rfl

theorem freshDriven_eq (k : ChannelKind) : k.freshDriven = if k = .bi then .unknown else .off := by
  cases k <;> rfl

theorem cmdSetStagger_of_length {p : List Byte} (h : p.length ≠ 1) (s : State) : cmdSetStagger p s = .error .badLength := by
  unfold cmdSetStagger
  split
  · exact absurd rfl h
  · rfl

theorem cmdSetStagger_of_range {n : Byte} (h : 1 ≤ n.toNat ∧ n.toNat ≤ 16) (s : State) :
    cmdSetStagger [n] s = .ok (s.storeStagger n.toNat, [n]) := by
  simp [cmdSetStagger, staggerOk, h]

theorem cmdSetStagger_of_outside {n : Byte} (h : ¬ (1 ≤ n.toNat ∧ n.toNat ≤ 16)) (s : State) :
    cmdSetStagger [n] s = .error .badField := by
  simp [cmdSetStagger, staggerOk, ← Bool.decide_and, h]

/-- Settles O35: CONFIGURE_CHANNEL by what reads its parameters and by the channel as configured, SET_STAGGER by its range. -/
theorem switchingCommands : Obligations.SwitchingCommands := by
  have hitem (n k r a o l w d1 d0 : Byte) : [n, k, r, a, o, l, w, d1, d0].length ≤ Config.maxParams := by simp [Config.maxParams]
  refine ⟨fun s tag n k r a o l w d1 d0 hr hl => ⟨fun hbad => ?_, fun c cfg hc hg => ⟨fun hf => ?_, fun hf => ?_⟩⟩,
    fun s tag n p hr hp => ⟨fun hlen => ?_, fun hn => ?_, fun h1 h16 => ?_⟩⟩
  · exact congrArg Host.Outcome.next (submit_refused hr (hitem ..) (by decide)
      (cmdConfigureChannel_of_refused hl (configureItem_of_unread hbad)))
  · exact congrArg Host.Outcome.next (submit_refused hr (hitem ..) (by decide)
      (cmdConfigureChannel_of_refused hl (configureItem_of_inFlight hc hg hf)))
  · obtain ⟨b, x, hchan⟩ := applyConfig_chan s c cfg
    have hon := applyConfig_onChannels s c cfg
    refine ⟨s.applyConfig c cfg, congrArg Host.Outcome.next (submit_replied hr (hitem ..) (by decide) (by decide)
      (cmdConfigureChannel_of_taken hl (configureItem_of_read hc hg hf))), (setChan_same s c _).trans hon.same, hon.table,
      hon.calendar, hon.freeCount, fun d hd => applyConfig_others s hd cfg, applyConfig_config s c cfg, applyConfig_claims s c cfg,
      applyConfig_target s c cfg, fun hk => ?_, fun hk => ?_⟩
    · rw [hchan, Channel.configured, if_pos hk]
      exact ⟨rfl, rfl, rfl, rfl⟩
    · rw [hchan, Channel.configured, if_neg hk]
      exact ⟨freshDriven_eq _, rfl, rfl, rfl⟩
  · exact congrArg Host.Outcome.next (submit_refused hr hp (by decide) (cmdSetStagger_of_length hlen s))
  · exact congrArg Host.Outcome.next (submit_refused hr (by simp [Config.maxParams]) (by decide)
      (cmdSetStagger_of_outside (by omega) s))
  · exact congrArg Host.Outcome.next (submit_replied hr (by simp [Config.maxParams]) (by decide) (by decide)
      (cmdSetStagger_of_range ⟨h1, h16⟩ s))

end Sys2Proof.Machine
end

/-! The restore countdown and the entry to RUN (R89, R147, R148). -/

section
namespace Sys2Proof.Machine

/-! ## The entry to RUN (R89, R147, R148) -/

theorem countdownSecond_of_due {s : State} {n : Nat} (hs : s.supply.state = .restoring) (hc : s.supply.countdown = some (n + 1))
    (hr : s.time.crystalRunning = true) (hd : s.supply.countdownDue ≤ s.cycles) : s.countdownSecond =
      s.setSupply { s.supply with countdown := some n, countdownDue := s.supply.countdownDue + Config.second } := by
  have hdue : s.countdownDue = true := by simp [State.countdownDue, hs, hc, hr, hd]
  rw [State.countdownSecond, if_pos hdue, hc]
  rfl

theorem countdownExpiry_of_due {s : State} (hs : s.supply.state = .restoring) (hc : s.supply.countdown = some 0) :
    s.countdownExpiry = s.enterRun := if_pos (by simp [State.expiryDue, hs, hc])

theorem reconcile_port (s : State) (c : Chan) : (s.reconcile c).port = s.port := by
  unfold State.reconcile
  dsimp only
  split <;> rfl

theorem outOfStep_enqueue (s : State) {c d : Chan} (h : c ≠ d) : (s.enqueue c).outOfStep d = s.outOfStep d := by
  have hd : (s.enqueue c).chan d = s.chan d := by rw [enqueue_chan, if_neg h]
  rw [State.outOfStep, hd]
  rfl

/-- The test of one channel leaves that of every other (R89). -/
theorem outOfStep_reconcile (s : State) {c d : Chan} (h : c ≠ d) : (s.reconcile c).outOfStep d = s.outOfStep d := by
  cases hc : s.outOfStep c with
  | true => rw [reconcile_of_outOfStep hc, outOfStep_enqueue s h]
  | false => rw [reconcile_of_inStep hc]

/-- A pass of the reconciliation test puts the channels out of step at the tail of the queue, in the order of the pass (R89). -/
theorem forEach_reconcile {l : List Chan} (hl : l.Nodup) (s : State) :
    (s.forEach l State.reconcile).engine = { s.engine with queue := s.engine.queue ++ l.filter s.outOfStep } ∧
    ∀ d, (s.forEach l State.reconcile).chan d =
      if d ∈ l ∧ s.outOfStep d = true then { s.chan d with switch := .queued } else s.chan d := by
  induction l generalizing s with
  | nil => simp [forEach_nil]
  | cons c l ih =>
    obtain ⟨hc, hl⟩ := List.nodup_cons.mp hl
    obtain ⟨hengine, hchan⟩ := ih hl (s.reconcile c)
    have hfilter : l.filter (s.reconcile c).outOfStep = l.filter s.outOfStep :=
      List.filter_congr fun d hd => outOfStep_reconcile s (ne_of_mem_of_not_mem hd hc).symm
    have hself : (s.reconcile c).chan c = if s.outOfStep c = true then { s.chan c with switch := .queued } else s.chan c := by
      cases h : s.outOfStep c with
      | true => rw [reconcile_of_outOfStep h, enqueue_chan, if_pos rfl, if_pos rfl]
      | false => rw [reconcile_of_inStep h, if_neg Bool.false_ne_true]
    rw [forEach_cons, hengine, hfilter]
    refine ⟨?_, fun d => ?_⟩
    · cases h : s.outOfStep c with
      | true => simp [reconcile_of_outOfStep h, h, State.enqueue]
      | false => simp [reconcile_of_inStep h, h]
    · rw [hchan]
      by_cases hd : c = d
      · subst hd
        simp [hc, hself]
      · have hother : (s.reconcile c).chan d = s.chan d := (reconcile_onChannels s c).others d (Ne.symm hd)
        simp [outOfStep_reconcile s hd, hother, Ne.symm hd]

theorem atRest_iff (ch : Channel) : ch.atRest = true ↔ ch.switch = .idle ∧ ch.pinA = false ∧ ch.pinB = false := by
  simp [Channel.atRest, and_assoc]

theorem State.EngineOk.idle {s : State} (h : s.EngineOk) (hs : s.supply.state ≠ .run) (c : Chan) : (s.chan c).switch = .idle :=
  ((atRest_iff _).mp (h.quiet hs c)).1

theorem State.EngineOk.empty {s : State} (h : s.EngineOk) (hs : s.supply.state ≠ .run) : s.engine.queue = [] :=
  List.eq_nil_iff_forall_not_mem.mpr fun c hc => by
    have hq := (h.queued c).mp hc
    rw [h.idle hs] at hq
    cases hq

/-- The entry to RUN before the reconciliation of the channels (R148). -/
def State.running (s : State) : State :=
  (s.setSupply { s.supply with state := .run, countdown := none, lastReturn := some s.now }).raiseSystem .supply

theorem enterRun_eq (s : State) : s.enterRun = s.running.forEach allChannels State.reconcile := rfl

/-- Settles O53: the countdown by what is due, the expiry by the pass of the reconciliation test over idle channels. -/
theorem restoreCountdownReachesRun : Obligations.RestoreCountdownReachesRun := by
  intro s dt u hstate
  refine ⟨fun n hc hr hd => congrArg Host.Outcome.next (countdownSecond_of_due hstate hc hr hd), fun hc hok => ?_⟩
  have hexpire : exec (.restoreCountdownExpiry dt) s = .next u.enterRun :=
    congrArg Host.Outcome.next (countdownExpiry_of_due hstate hc)
  clear_value u
  have hnot : u.supply.state ≠ .run := by rw [hstate]; decide
  have hout (c : Chan) : u.running.outOfStep c =
      ((u.chan c).config.kind != .unused && (u.chan c).driven != Driven.ofTarget (u.chan c).target) := by
    have hidle : (u.running.chan c).switch = .idle := hok.idle hnot c
    have hrun : (u.running.supply.state == .run) = true := rfl
    simp only [State.outOfStep, hidle, hrun, beq_self_eq_true, Bool.and_true]
    rfl
  obtain ⟨hengine, hchan⟩ := forEach_reconcile allChannels_nodup u.running
  have hpass : u.running.OnChannels (· ∈ allChannels) u.enterRun := .forEach (fun _ h => h) reconcile_onChannels _
  have hport : u.enterRun.port = u.running.port :=
    forEach_keeps (P := fun t => t.port = u.running.port) (fun t c _ h => (reconcile_port t c).trans h) rfl
  refine ⟨u.enterRun, hexpire, hpass.same.supply, hengine.trans ?_, fun c => (hchan c).trans ?_, hport, hpass.table, hpass.calendar,
    hpass.same.store, hpass.same.time⟩
  · have hempty : u.running.engine.queue = [] := hok.empty hnot
    rw [hempty, List.nil_append, List.filter_congr fun c _ => hout c]
    rfl
  · simp only [hout, mem_allChannels, true_and, Bool.and_eq_true, bne_iff_ne]
    rfl

end Sys2Proof.Machine
end

/-! The Switching Engine's invariant and the agreement of the relays (R82, R86, R87, R99, R100): what one channel's change needs, and the
engine's own operations. -/

section
namespace Sys2Proof.Machine

/-! ## A channel that agrees (R82, R87) -/

/-- A MONO channel's coil pin is at its level (R82). -/
def Channel.CoilOk (ch : Channel) : Prop := ch.config.kind = .mono → ch.pinA = ch.coilLevel

/-- A QUEUED channel's target differs from its driven state, and a MONO channel's coil pin is at its level (R82, R87). -/
structure Channel.Agrees (ch : Channel) : Prop where
  differ : ch.switch = .queued → ch.driven ≠ Driven.ofTarget ch.target
  coil : ch.CoilOk

/-- The relays agree when each channel does, the queue holding the QUEUED channels. -/
theorem relaysAgree_iff {s : State} (h : s.EngineOk) : s.RelaysAgree ↔ ∀ c, (s.chan c).Agrees :=
  ⟨fun ha c => ⟨fun hc => ha.differ c ((h.queued c).mpr hc), ha.coil c⟩,
    fun ha => ⟨fun c hc => (ha c).differ ((h.queued c).mp hc), fun c => (ha c).coil⟩⟩

section
variable {ch : Channel}

/-- A request drives no coil, and neither does its removal. -/
theorem Channel.CoilOk.request (h : ch.CoilOk) (hs : ch.switch = .idle ∨ ch.switch = .queued) {x : SwitchState}
    (hx : x = .idle ∨ x = .queued) : ({ ch with switch := x } : Channel).CoilOk := by
  intro hk
  have hold : ch.coilLevel = (ch.driven == .on) := hs.elim Channel.coilLevel_idle Channel.coilLevel_queued
  have hnew : ({ ch with switch := x } : Channel).coilLevel = (ch.driven == .on) :=
    hx.elim (Channel.coilLevel_idle (ch := { ch with switch := x })) (Channel.coilLevel_queued (ch := { ch with switch := x }))
  rw [hnew, ← hold]
  exact h hk

/-! ### The pins (R82) -/

theorem pinsOk_unused (hk : ch.config.kind = .unused) :
    ch.pinsOk = true ↔ ch.pinA = false ∧ ch.pinB = false ∧ ch.switch = .idle := by
  simp [Channel.pinsOk, hk, and_assoc]

/-- Without an operation in flight a MONO channel may hold its coil pin alone, and no other channel a pin. -/
theorem pinsOk_of_waiting (hk : ch.config.kind ≠ .unused) (hs : ch.switch = .idle ∨ ch.switch = .queued) :
    ch.pinsOk = true ↔ ch.pinB = false ∧ (ch.config.kind = .bi → ch.pinA = false) := by
  rcases hs with hs | hs <;> cases hkind : ch.config.kind <;> simp_all [Channel.pinsOk, and_comm]

theorem pinsOk_issued_mono {op : Operation} (hk : ch.config.kind = .mono) (hs : ch.switch = .issued op) :
    ch.pinsOk = true ↔ ch.pinB = false ∧ op.pin = .a := by
  simp [Channel.pinsOk, hk, hs]

theorem pinsOk_issued_bi {op : Operation} (hk : ch.config.kind = .bi) (hs : ch.switch = .issued op) :
    ch.pinsOk = true ↔ ch.pinA = false ∧ ch.pinB = false := by
  simp [Channel.pinsOk, hk, hs]

/-- Only a BI channel has a pulse in progress, and it holds the pin of its operation alone (R86, R96). -/
theorem pinsOk_pulsing {op : Operation} (hs : ch.switch = .pulsing op) :
    ch.pinsOk = true ↔ ch.config.kind = .bi ∧ ch.pinA = (op.pin == .a) ∧ ch.pinB = (op.pin == .b) := by
  cases hk : ch.config.kind <;> simp [Channel.pinsOk, hk, hs]

theorem pinsOk_of_atRest (h : ch.atRest = true) : ch.pinsOk = true := by
  obtain ⟨hs, ha, hb⟩ := (atRest_iff ch).mp h
  cases hk : ch.config.kind <;> simp [Channel.pinsOk, hk, hs, ha, hb]

/-- A channel that is not IDLE is not UNUSED (R86). -/
theorem kind_of_not_idle (h : ch.pinsOk = true) (hs : ch.switch ≠ .idle) : ch.config.kind ≠ .unused :=
  fun hk => hs ((pinsOk_unused hk).mp h).2.2

/-- The pins of a channel that waits stay in order as its request comes and goes. -/
theorem pinsOk_request (h : ch.pinsOk = true) (hk : ch.config.kind ≠ .unused) (hs : ch.switch = .idle ∨ ch.switch = .queued)
    {x : SwitchState} (hx : x = .idle ∨ x = .queued) : ({ ch with switch := x } : Channel).pinsOk = true :=
  (pinsOk_of_waiting (ch := { ch with switch := x }) hk hx).mpr ((pinsOk_of_waiting hk hs).mp h)

end

/-! ## A change at one channel -/

/-- The invariant through a change at one channel: the channel in order, and in the queue exactly if QUEUED. -/
theorem engineOk_of_channel {s t : State} {c : Chan} (h : s.EngineOk) (hothers : ∀ d, d ≠ c → t.chan d = s.chan d)
    (hstate : t.supply.state = s.supply.state) (honce : t.engine.queue.Nodup)
    (hqueue : ∀ d, d ≠ c → (d ∈ t.engine.queue ↔ d ∈ s.engine.queue)) (hself : c ∈ t.engine.queue ↔ (t.chan c).switch = .queued)
    (hpins : (t.chan c).pinsOk = true) (hrest : s.supply.state ≠ .run → (t.chan c).atRest = true) : t.EngineOk where
  once := honce
  queued d := by
    by_cases hd : d = c
    · rw [hd]; exact hself
    · rw [hqueue d hd, hothers d hd]; exact h.queued d
  pins d := by
    by_cases hd : d = c
    · rw [hd]; exact hpins
    · rw [hothers d hd]; exact h.pins d
  quiet hs d := by
    rw [hstate] at hs
    by_cases hd : d = c
    · rw [hd]; exact hrest hs
    · rw [hothers d hd]; exact h.quiet hs d

section
variable {s : State} {c : Chan}

theorem setChan_engineOk (h : s.EngineOk) {x : Channel} (hqueue : x.switch = .queued ↔ (s.chan c).switch = .queued)
    (hpins : x.pinsOk = true) (hrest : s.supply.state ≠ .run → x.atRest = true) : (s.setChan c x).EngineOk := by
  have hself : (s.setChan c x).chan c = x := by rw [chan_setChan, if_pos rfl]
  refine engineOk_of_channel (c := c) h (fun d hd => by rw [chan_setChan, if_neg (Ne.symm hd)]) rfl h.once
    (fun _ _ => Iff.rfl) ?_ ?_ ?_
  · rw [hself, hqueue]; exact h.queued c
  · rw [hself]; exact hpins
  · rw [hself]; exact hrest

theorem enqueue_engineOk (h : s.EngineOk) (hk : (s.chan c).config.kind ≠ .unused) (hi : (s.chan c).switch = .idle)
    (hr : s.supply.state = .run) : (s.enqueue c).EngineOk := by
  have hself : (s.enqueue c).chan c = { s.chan c with switch := .queued } := by rw [enqueue_chan, if_pos rfl]
  have hout : c ∉ s.engine.queue := fun hc => by rw [h.queued, hi] at hc; cases hc
  have hmem (d : Chan) : d ∈ (s.enqueue c).engine.queue ↔ d ∈ s.engine.queue ∨ d = c := by simp [State.enqueue]
  refine engineOk_of_channel (c := c) h (fun d hd => by rw [enqueue_chan, if_neg (Ne.symm hd)]) rfl ?_ (fun d hd => ?_) ?_ ?_
    fun hs => absurd hr hs
  · exact List.nodup_append.mpr ⟨h.once, List.nodup_singleton c, fun a ha b hb => by
      rw [List.mem_singleton.mp hb]; exact ne_of_mem_of_not_mem ha hout⟩
  · simp [hmem, hd]
  · simp [hmem, hself]
  · rw [hself]; exact pinsOk_request (h.pins c) hk (.inl hi) (.inr rfl)

/-- The queue without a channel that is not QUEUED any more. -/
theorem mem_dequeue (s : State) (c d : Chan) : d ∈ (s.dequeue c).engine.queue ↔ d ∈ s.engine.queue ∧ d ≠ c := by
  simp [State.dequeue]

theorem dequeue_engineOk (h : s.EngineOk) (hq : (s.chan c).switch = .queued) : (s.dequeue c).EngineOk := by
  have hself : (s.dequeue c).chan c = { s.chan c with switch := .idle } := by rw [dequeue_chan, if_pos rfl]
  refine engineOk_of_channel (c := c) h (fun d hd => by rw [dequeue_chan, if_neg (Ne.symm hd)]) rfl (h.once.filter _)
    (fun d hd => ?_) ?_ ?_ fun hs => ?_
  · simp [mem_dequeue, hd]
  · simp [mem_dequeue, hself]
  · rw [hself]
    exact pinsOk_request (h.pins c) (kind_of_not_idle (h.pins c) (by rw [hq]; simp)) (.inr hq) (.inl rfl)
  · rw [h.idle hs] at hq; cases hq

end

/-! ## Changes that keep the invariant -/

/-- The change from one state to another keeps the Switching Engine's invariant, and with it the agreement of the relays. -/
structure State.KeepsEngine (s t : State) : Prop where
  ok : s.EngineOk → t.EngineOk
  agree : s.EngineOk → s.RelaysAgree → t.RelaysAgree

section
variable {s t u : State}

theorem State.KeepsEngine.refl (s : State) : s.KeepsEngine s := ⟨id, fun _ => id⟩

theorem State.KeepsEngine.trans (h : s.KeepsEngine t) (k : t.KeepsEngine u) : s.KeepsEngine u :=
  ⟨k.ok ∘ h.ok, fun hs ha => k.agree (h.ok hs) (h.agree hs ha)⟩

/-- The channels and the queue stand, and the supply does not leave RUN. -/
theorem State.KeepsEngine.of_relays (hc : t.channels = s.channels) (hq : t.engine.queue = s.engine.queue)
    (hs : t.supply.state ≠ .run → s.supply.state ≠ .run) : s.KeepsEngine t := by
  have hchan (c : Chan) : t.chan c = s.chan c := by rw [State.chan, hc]; rfl
  refine ⟨fun h => ⟨?_, fun c => ?_, fun c => ?_, fun ht c => ?_⟩, fun _ h => ⟨fun c hcq => ?_, fun c => ?_⟩⟩
  · rw [hq]; exact h.once
  · rw [hq, hchan]; exact h.queued c
  · rw [hchan]; exact h.pins c
  · rw [hchan]; exact h.quiet (hs ht) c
  · rw [hq] at hcq; rw [hchan]; exact h.differ c hcq
  · rw [hchan]; exact h.coil c

theorem State.KeepsEngine.of_items (hc : t.channels = s.channels) (hq : t.engine.queue = s.engine.queue)
    (hs : t.supply.state = s.supply.state) : s.KeepsEngine t := .of_relays hc hq fun h => hs ▸ h

/-- A change behind one that leaves the channels, the queue and the supply state as they stand. -/
theorem State.KeepsEngine.behind (h : t.KeepsEngine u) (hc : t.channels = s.channels) (hq : t.engine.queue = s.engine.queue)
    (hs : t.supply.state = s.supply.state) : s.KeepsEngine u := (State.KeepsEngine.of_items hc hq hs).trans h

/-- A change at one channel that keeps the invariant keeps the agreement if the channel agrees. -/
theorem State.KeepsEngine.of_channel {c : Chan} (hok : s.EngineOk → t.EngineOk) (hothers : ∀ d, d ≠ c → t.chan d = s.chan d)
    (hself : s.EngineOk → (s.chan c).Agrees → (t.chan c).Agrees) : s.KeepsEngine t := by
  refine ⟨hok, fun h ha => (relaysAgree_iff (hok h)).mpr fun d => ?_⟩
  have hall := (relaysAgree_iff h).mp ha
  by_cases hd : d = c
  · rw [hd]; exact hself h (hall c)
  · rw [hothers d hd]; exact hall d

/-- The invariant may be asked for before the change is looked at. -/
theorem State.KeepsEngine.of_ok (h : s.EngineOk → s.KeepsEngine t) : s.KeepsEngine t :=
  ⟨fun hs => (h hs).ok hs, fun hs => (h hs).agree hs⟩

/-- Whatever came before, nothing is in hand, and no MONO channel is driven ON. -/
theorem State.KeepsEngine.of_atRest (hq : t.engine.queue = []) (hrest : ∀ c, (t.chan c).atRest = true)
    (hmono : ∀ c, (t.chan c).config.kind = .mono → (t.chan c).driven = .off) : s.KeepsEngine t := by
  have hidle (c : Chan) := (atRest_iff _).mp (hrest c)
  refine ⟨fun _ => ⟨?_, fun c => ?_, fun c => pinsOk_of_atRest (hrest c), fun _ => hrest⟩,
    fun _ _ => ⟨fun c hc => ?_, fun c hk => ?_⟩⟩
  · rw [hq]; exact .nil
  · rw [hq, (hidle c).1]; simp
  · rw [hq] at hc; cases hc
  · rw [(hidle c).2.1, Channel.coilLevel_idle (hidle c).1, hmono c hk]; rfl

theorem State.KeepsEngine.of_cold (hc : t.channels = Vector.replicate 16 Channel.cold) (hq : t.engine.queue = []) :
    s.KeepsEngine t :=
  .of_atRest hq (fun c => by rw [chan_of_cold hc]; rfl) fun c _ => by rw [chan_of_cold hc]; rfl

end

theorem forEach_keepsEngine {α : Type} {f : State → α → State} (hf : ∀ (s : State) (a : α), s.KeepsEngine (f s a))
    (l : List α) (s : State) : s.KeepsEngine (s.forEach l f) := forEach_rel State.KeepsEngine .refl (fun _ _ _ => .trans) l f hf s

/-! ## Targets and requests (R62, R83, R87 to R89) -/

section
variable (s : State)

theorem raise_keepsEngine (k : ChangeKind) (n : Nat) (r : Word) : s.KeepsEngine (s.raise k n r) := .of_items rfl rfl rfl

theorem setClaims_keepsEngine (c : Chan) (l : List Claim) : s.KeepsEngine (s.setClaims c l) :=
  .of_channel (c := c) (fun h => setChan_engineOk h Iff.rfl (h.pins c) fun hs => h.quiet hs c)
    (fun d hd => by rw [chan_setClaims, if_neg (Ne.symm hd)])
    fun _ ha => by rw [chan_setClaims, if_pos rfl]; exact ⟨ha.differ, ha.coil⟩

/-- What a target change can do at the Switching Engine (R88). -/
theorem targetArrives_spec (c : Chan) (t : Bool) :
    (s.targetArrives c t = s ∧
      ((s.chan c).switch = .queued → (s.chan c).config.kind = .unused ∨ (s.chan c).driven ≠ Driven.ofTarget t)) ∨
    (s.targetArrives c t = s.enqueue c ∧ (s.chan c).config.kind ≠ .unused ∧ (s.chan c).switch = .idle ∧ s.supply.state = .run ∧
      (s.chan c).driven ≠ Driven.ofTarget t) ∨
    (s.targetArrives c t = s.dequeue c ∧ (s.chan c).switch = .queued) := by
  unfold State.targetArrives
  dsimp only
  split
  · next hk => exact .inl ⟨rfl, fun _ => .inl hk⟩
  · next hk =>
    split
    · next hi =>
      split
      · next h => exact .inr (.inl ⟨rfl, hk, hi, h⟩)
      · exact .inl ⟨rfl, fun hq => by rw [hi] at hq; cases hq⟩
    · next hq =>
      split
      · exact .inr (.inr ⟨rfl, hq⟩)
      · next hd => exact .inl ⟨rfl, fun _ => .inr hd⟩
    · next hi => exact .inl ⟨rfl, fun hq => by rw [hi] at hq; cases hq⟩
    · next hi => exact .inl ⟨rfl, fun hq => by rw [hi] at hq; cases hq⟩

variable {s} in
theorem targetArrives_engineOk (h : s.EngineOk) (c : Chan) (t : Bool) : (s.targetArrives c t).EngineOk := by
  obtain ⟨e, -⟩ | ⟨e, hk, hi, hr, -⟩ | ⟨e, hq⟩ := targetArrives_spec s c t <;> rw [e]
  · exact h
  · exact enqueue_engineOk h hk hi hr
  · exact dequeue_engineOk h hq

variable {s} in
/-- A channel agrees once the Switching Engine has heard of its target (R88). -/
theorem targetArrives_agrees (h : s.EngineOk) {c : Chan} {t : Bool} (ht : (s.chan c).target = t) (hc : (s.chan c).CoilOk) :
    ((s.targetArrives c t).chan c).Agrees := by
  obtain ⟨e, hd⟩ | ⟨e, -, hi, -, hd⟩ | ⟨e, hq⟩ := targetArrives_spec s c t <;> rw [e]
  · refine ⟨fun hq => ?_, hc⟩
    have hk := kind_of_not_idle (h.pins c) (by rw [hq]; simp)
    rw [ht]
    exact (hd hq).resolve_left hk
  · rw [enqueue_chan, if_pos rfl]
    exact ⟨fun _ => ht ▸ hd, hc.request (.inl hi) (.inr rfl)⟩
  · rw [dequeue_chan, if_pos rfl]
    exact ⟨nofun, hc.request (.inr hq) (.inl rfl)⟩

theorem retarget_keepsEngine (c : Chan) : s.KeepsEngine (s.retarget c) := by
  by_cases hsame : (s.chan c).wanted = (s.chan c).target
  · rw [retarget_of_same hsame]; exact .refl s
  · have hset (h : s.EngineOk) : (s.retargeted c).EngineOk :=
      (raise_keepsEngine _ _ _ _).ok (setChan_engineOk (x := { s.chan c with target := (s.chan c).wanted }) h Iff.rfl
        (h.pins c) fun hs => h.quiet hs c)
    have hself : (s.retargeted c).chan c = { s.chan c with target := (s.chan c).wanted } := by rw [retargeted_chan, if_pos rfl]
    refine .of_channel (c := c) (fun h => ?_) (retarget_onChannels s c).others fun h ha => ?_
    all_goals rw [retarget_of_changed hsame]
    · exact targetArrives_engineOk (hset h) c _
    · exact targetArrives_agrees (hset h) (by rw [hself]) (by rw [hself]; exact ha.coil)

theorem retargetAll_keepsEngine (cs : List Chan) : s.KeepsEngine (s.retargetAll cs) :=
  forEach_keepsEngine retarget_keepsEngine cs s

variable {s} in
theorem enqueue_keepsEngine {c : Chan} (hk : (s.chan c).config.kind ≠ .unused) (hi : (s.chan c).switch = .idle)
    (hr : s.supply.state = .run) (hd : (s.chan c).driven ≠ Driven.ofTarget (s.chan c).target) : s.KeepsEngine (s.enqueue c) := by
  refine .of_channel (c := c) (fun h => enqueue_engineOk h hk hi hr) (fun d hd => by rw [enqueue_chan, if_neg (Ne.symm hd)])
    fun _ ha => ?_
  rw [enqueue_chan, if_pos rfl]
  exact ⟨fun _ => hd, ha.coil.request (.inl hi) (.inr rfl)⟩

theorem reconcile_keepsEngine (c : Chan) : s.KeepsEngine (s.reconcile c) := by
  cases h : s.outOfStep c with
  | true =>
    obtain ⟨hk, hi, hr, hd⟩ := (outOfStep_iff s c).mp h
    rw [reconcile_of_outOfStep h]
    exact enqueue_keepsEngine hk hi hr hd
  | false => rw [reconcile_of_inStep h]; exact .refl s

theorem enterRun_keepsEngine : s.KeepsEngine s.enterRun := by
  rw [enterRun_eq]
  have hrun : s.KeepsEngine s.running := .of_relays rfl rfl fun h => absurd rfl h
  exact hrun.trans (forEach_keepsEngine reconcile_keepsEngine allChannels _)

/-! ## Configuration (R83, R84) -/

variable {s} in
theorem configured_agrees {c : Chan} (h : (s.chan c).Agrees) (cfg : ChannelConfig) : ((s.chan c).configured cfg).Agrees := by
  unfold Channel.configured
  split
  · next hk => exact ⟨h.differ, fun hm => h.coil (hk.symm.trans hm)⟩
  · refine ⟨nofun, fun hm => ?_⟩
    rw [Channel.coilLevel_idle rfl]
    simp_all [freshDriven_eq]

theorem storeConfig_keepsEngine (c : Chan) (cfg : ChannelConfig) : s.KeepsEngine (s.storeConfig c cfg) := by
  have hothers (d : Chan) (hd : d ≠ c) : (s.storeConfig c cfg).chan d = s.chan d := by
    rw [(storeConfig_onChannels s c cfg).others d hd, chan_setChan, if_neg (Ne.symm hd)]
  refine .of_channel (c := c) (fun h => ?_) hothers fun _ ha => by rw [storeConfig_chan]; exact configured_agrees ha cfg
  by_cases hk : cfg.kind = (s.chan c).config.kind
  · rw [storeConfig_of_kind hk]
    refine setChan_engineOk h Iff.rfl ?_ fun hs => h.quiet hs c
    simpa only [Channel.pinsOk, hk] using h.pins c
  · have hself : (s.storeConfig c cfg).chan c = _ := storeConfig_chan s c cfg
    rw [Channel.configured, if_neg hk] at hself
    have hrest : ((s.storeConfig c cfg).chan c).atRest = true := by rw [hself]; rfl
    have hqueue : (s.storeConfig c cfg).engine.queue = s.engine.queue.filter (· != c) := by
      rw [storeConfig_of_other hk, State.changeKind, reportDriven_engine]; rfl
    refine engineOk_of_channel h hothers ?_ ?_ (fun d hd => ?_) ?_ (pinsOk_of_atRest hrest) fun _ => hrest
    · exact congrArg _ (storeConfig_onChannels s c cfg).same.supply
    · rw [hqueue]; exact h.once.filter _
    · simp [hqueue, hd]
    · simp [hqueue, hself]

theorem applyConfig_keepsEngine (c : Chan) (cfg : ChannelConfig) : s.KeepsEngine (s.applyConfig c cfg) := by
  rw [applyConfig_eq]
  refine .trans ?_ (reconcile_keepsEngine _ c)
  split
  · exact storeConfig_keepsEngine s c cfg
  · exact (storeConfig_keepsEngine s c cfg).trans (retarget_keepsEngine _ c)

/-! ## Slots (R91, R94) -/

theorem operation_acted (ch : Channel) (now : Nat) (line : Option (Nat × Nat)) : (ch.operation now line).acted = false := by
  cases line <;> rfl

/-- Only a BI channel has an operation on its reset pin (R95, R96). -/
theorem operation_pin {ch : Channel} (h : ch.config.kind ≠ .bi) (now : Nat) (line : Option (Nat × Nat)) :
    (ch.operation now line).pin = .a := by
  cases line <;> simp [Channel.operation, h]

variable {s} in
theorem granted_pinsOk {c : Chan} (h : (s.chan c).pinsOk = true) (hq : (s.chan c).switch = .queued) :
    (s.granted c).pinsOk = true := by
  have hk := kind_of_not_idle h (by rw [hq]; simp)
  obtain ⟨hb, ha⟩ := (pinsOk_of_waiting hk (.inr hq)).mp h
  cases hkind : (s.chan c).config.kind with
  | unused => exact absurd hkind hk
  | mono =>
    exact (pinsOk_issued_mono (ch := s.granted c) hkind rfl).mpr ⟨hb, operation_pin (by rw [hkind]; simp) _ _⟩
  | bi => exact (pinsOk_issued_bi (ch := s.granted c) hkind rfl).mpr ⟨ha hkind, hb⟩

variable {s} in
theorem granted_agrees {c : Chan} (h : (s.chan c).Agrees) (hq : (s.chan c).switch = .queued) : (s.granted c).Agrees := by
  refine ⟨nofun, fun hk => (h.coil hk).trans ?_⟩
  rw [Channel.coilLevel_queued hq, Channel.coilLevel_issued rfl, operation_acted]
  rfl

theorem scanQueue_supply (cs : List Chan) (room : Nat) : (scanQueue s cs room).1.supply = s.supply := by
  induction cs generalizing s room with
  | nil => rfl
  | cons c cs ih =>
    cases room with
    | zero => rfl
    | succ room =>
      unfold scanQueue
      split
      · exact ih _ _
      · exact ih _ _

theorem switchingSlot_supply : s.switchingSlot.supply = s.supply := scanQueue_supply s _ _

theorem switchingSlot_keepsEngine : s.KeepsEngine s.switchingSlot := by
  have hsub := grants_sublist s s.engine.queue s.engine.stagger
  have hslot (h : s.EngineOk) : s.switchingSlot.EngineOk := by
    obtain ⟨hengine, hchan⟩ := switchingSlot_spec h.once
    refine ⟨?_, fun c => ?_, fun c => ?_, fun hs c => ?_⟩
    · rw [hengine]; exact h.once.filter _
    · rw [hengine, hchan]
      split
      · next hg => simp [hg, State.granted]
      · next hg => simp [hg, h.queued]
    · rw [hchan]
      split
      · next hg => exact granted_pinsOk (h.pins c) ((h.queued c).mp (hsub.subset hg))
      · exact h.pins c
    · rw [switchingSlot_supply] at hs
      rw [hchan, if_neg fun hg => ?_]
      · exact h.quiet hs c
      · have := hsub.subset hg
        rw [h.empty hs] at this
        cases this
  refine ⟨hslot, fun h ha => (relaysAgree_iff (hslot h)).mpr fun c => ?_⟩
  have hall := (relaysAgree_iff h).mp ha
  rw [(switchingSlot_spec h.once).2]
  split
  · next hg => exact granted_agrees (hall c) ((h.queued c).mp (hsub.subset hg))
  · exact hall c

/-! ## The instants of an operation (R95, R96, R98) -/

variable {s} in
/-- Outside RUN no operation is in flight (R99). -/
theorem run_of_not_idle (h : s.EngineOk) {c : Chan} (hs : (s.chan c).switch ≠ .idle) : s.supply.state = .run :=
  Classical.byContradiction fun hr => hs (h.idle hr c)

theorem coilAction_keepsEngine (c : Chan) : s.KeepsEngine (s.coilAction c) := by
  cases hd : s.coilDue c with
  | none => rw [State.coilAction, hd]; exact .refl s
  | some op =>
    obtain ⟨hs, hk, -, -⟩ := coilDue_iff.mp hd
    rw [coilAction_of_due hd]
    refine .of_channel (c := c) (fun h => ?_) (fun d hd => by rw [chan_setChan, if_neg (Ne.symm hd)]) fun h ha => ?_
    all_goals
      obtain ⟨hb, hp⟩ := (pinsOk_issued_mono hk hs).mp (h.pins c)
      have hdrive (x : Channel) : x.drive op.pin op.intended = { x with pinA := op.intended } := by rw [hp]; rfl
      rw [hdrive]
    · refine setChan_engineOk h (by simp [hs]) ?_ fun hr => absurd (run_of_not_idle h (by rw [hs]; simp)) hr
      exact (pinsOk_issued_mono (ch := { s.chan c with switch := .issued { op with acted := true }, pinA := op.intended })
        (op := { op with acted := true }) hk rfl).mpr ⟨hb, hp⟩
    · rw [chan_setChan, if_pos rfl]
      exact ⟨nofun, fun _ => rfl⟩

theorem pulseStart_keepsEngine (c : Chan) : s.KeepsEngine (s.pulseStart c) := by
  cases hd : s.pulseDue c with
  | none => rw [State.pulseStart, hd]; exact .refl s
  | some op =>
    obtain ⟨hs, hk, -⟩ := pulseDue_iff.mp hd
    rw [pulseStart_of_due hd]
    refine .of_channel (c := c) (fun h => ?_) (fun d hd => by rw [chan_setChan, if_neg (Ne.symm hd)]) fun h ha => ?_
    · obtain ⟨ha, hb⟩ := (pinsOk_issued_bi hk hs).mp (h.pins c)
      have hswitch : (({ s.chan c with switch := .pulsing op } : Channel).drive op.pin true).switch = .pulsing op := by
        cases op.pin <;> rfl
      refine setChan_engineOk h (by simp [hs, hswitch]) ((pinsOk_pulsing hswitch).mpr ?_)
        fun hr => absurd (run_of_not_idle h (by rw [hs]; simp)) hr
      cases hp : op.pin <;> simp [Channel.drive, hk, ha, hb]
    · rw [chan_setChan, if_pos rfl]
      cases op.pin with
      | a => exact ⟨nofun, fun hm => by cases hk.symm.trans hm⟩
      | b => exact ⟨nofun, fun hm => by cases hk.symm.trans hm⟩

/-- A completed operation leaves its channel IDLE, driven as intended, with the coil pin of a MONO relay as its action left it. -/
theorem completed_pins (ch : Channel) (op : Operation) : (ch.completed op).switch = .idle ∧
    (ch.completed op).driven = Driven.ofTarget op.intended ∧ (ch.config.kind ≠ .bi →
      (ch.completed op).pinA = ch.pinA ∧ (ch.completed op).pinB = ch.pinB) := by
  refine ⟨rfl, rfl, fun hk => ?_⟩
  simp [Channel.completed, hk]

/-- The end of a pulse de-energizes its pin (R96). -/
theorem completed_pulse {ch : Channel} {op : Operation} (hk : ch.config.kind = .bi) (ha : ch.pinA = (op.pin == .a))
    (hb : ch.pinB = (op.pin == .b)) : (ch.completed op).pinA = false ∧ (ch.completed op).pinB = false := by
  cases hp : op.pin <;> simp [Channel.completed, Channel.drive, hk, ha, hb, hp]

theorem ofTarget_eq_on (b : Bool) : (Driven.ofTarget b == .on) = b := by
  cases b <;> rfl

variable {s} in
/-- A channel whose operation is complete is in order: a pulse has ended, and a coil stands as its action left it (R95, R96, R98). -/
theorem completed_inOrder {c : Chan} {op : Operation} (h : (s.chan c).pinsOk = true) (hd : s.completionDue c = some op) :
    (s.chan c).config.kind ≠ .unused ∧ ((s.chan c).completed op).pinsOk = true ∧
      ((s.chan c).CoilOk → ((s.chan c).completed op).CoilOk) := by
  have hconfig := (completed_claims (s.chan c) op).2.2
  obtain ⟨hidle, hdriven, hmono⟩ := completed_pins (s.chan c) op
  obtain ⟨-, ⟨hs, hk, ha⟩ | hs⟩ := completionDue_iff.mp hd
  · have hkind : ((s.chan c).completed op).config.kind = .mono := by rw [hconfig]; exact hk
    obtain ⟨hpa, hpb⟩ := hmono (by rw [hk]; simp)
    refine ⟨by rw [hk]; simp, (pinsOk_of_waiting (by rw [hkind]; simp) (.inl hidle)).mpr ⟨?_, by rw [hkind]; nofun⟩,
      fun hc _ => ?_⟩
    · rw [hpb]; exact ((pinsOk_issued_mono hk hs).mp h).1
    · rw [hpa, hc hk, Channel.coilLevel_issued hs, Channel.coilLevel_idle hidle, hdriven, ofTarget_eq_on, if_pos ha]
  · obtain ⟨hk, hpa, hpb⟩ := (pinsOk_pulsing hs).mp h
    refine ⟨by rw [hk]; simp, pinsOk_of_atRest ((atRest_iff _).mpr ⟨hidle, completed_pulse hk hpa hpb⟩), fun _ hm => ?_⟩
    rw [hconfig, hk] at hm
    cases hm

theorem complete_keepsEngine (c : Chan) : s.KeepsEngine (s.complete c) := by
  cases hd : s.completionDue c with
  | none => rw [State.complete, hd]; exact .refl s
  | some op =>
    refine .of_ok fun h => ?_
    obtain ⟨hidle, hdriven, -⟩ := completed_pins (s.chan c) op
    obtain ⟨-, htarget, hconfig⟩ := completed_claims (s.chan c) op
    obtain ⟨hk, hpins, hcoil⟩ := completed_inOrder (h.pins c) hd
    have hbusy : (s.chan c).switch ≠ .idle ∧ (s.chan c).switch ≠ .queued := by
      obtain ⟨-, ⟨hs, -⟩ | hs⟩ := completionDue_iff.mp hd <;> simp [hs]
    have hrun : s.supply.state = .run := run_of_not_idle h hbusy.1
    have hself : (s.settled c op).chan c = (s.chan c).completed op := by rw [settled_chan, if_pos rfl]
    have hsettled : s.KeepsEngine (s.settled c op) := by
      refine .trans ?_ (raise_keepsEngine _ _ _ _)
      refine .of_channel (c := c) (fun h => setChan_engineOk h ?_ hpins fun hr => absurd hrun hr)
        (fun d hd => by rw [chan_setChan, if_neg (Ne.symm hd)]) fun _ ha => ?_
      · simp [hidle, hbusy.2]
      · rw [chan_setChan, if_pos rfl]
        exact ⟨fun hq => by (rw [hidle] at hq; cases hq), hcoil ha.coil⟩
    rw [complete_of_due hd]
    split
    · exact hsettled
    · next hmoved =>
      refine hsettled.trans (enqueue_keepsEngine ?_ ?_ hrun ?_)
      · rw [hself, hconfig]; exact hk
      · rw [hself]; exact hidle
      · rw [hself, hdriven, htarget]; exact fun he => hmoved (ofTarget_inj.mp he)

theorem abandoned_driven {ch : Channel} (hk : ch.config.kind = .mono) : ch.abandoned.driven = .off := by
  simp [Channel.abandoned, Channel.abandonedDriven, hk]

/-- Whatever was in hand, the entry to BACKUP leaves nothing (R99, R100). -/
theorem abandonAll_keepsEngine (r : State) : r.KeepsEngine s.abandonAll :=
  .of_atRest rfl (fun c => by rw [abandonAll_chan]; rfl)
    fun c hk => by rw [abandonAll_chan] at hk ⊢; exact abandoned_driven hk

end

end Sys2Proof.Machine
end

/-! The Switching Engine's invariant over a step: the claims and the table, the other blocks, the commands and the rows. -/

section
namespace Sys2Proof.Machine

section
variable (s : State)

theorem elapse_keepsEngine (dt : Nat) : s.KeepsEngine (s.elapse dt) := by
  unfold State.elapse
  dsimp only
  repeat' split
  all_goals exact .of_items rfl rfl rfl

/-! ## Claims (R62, R65 to R71) -/

/-- A claim operation on some channels, with the targets computed behind it. -/
theorem pass_keepsEngine {f : State → Chan → State} (hf : ∀ (s : State) (c : Chan), s.KeepsEngine (f s c)) (cs : List Chan) :
    s.KeepsEngine ((s.forEach cs f).retargetAll cs) :=
  (forEach_keepsEngine hf cs s).trans (retargetAll_keepsEngine _ cs)

theorem dropOverride_keepsEngine (c : Chan) : s.KeepsEngine (s.dropOverride c) := by
  unfold State.dropOverride
  split
  · exact (setClaims_keepsEngine s c _).trans (raise_keepsEngine _ _ _ _)
  · exact .refl s

theorem endUntilNext_keepsEngine (c : Chan) : s.KeepsEngine (s.endUntilNext c) := by
  unfold State.endUntilNext
  split
  · exact dropOverride_keepsEngine s c
  · exact .refl s

theorem putOverride_keepsEngine (c : Chan) (a : Bool) (o : OverrideOrigin) (e : OverrideEnding) :
    s.KeepsEngine (s.putOverride c a o e) := (dropOverride_keepsEngine s c).trans (setClaims_keepsEngine _ _ _)

theorem putHold_keepsEngine (c : Chan) (a : Bool) : s.KeepsEngine (s.putHold c a) := setClaims_keepsEngine s c _

theorem dropHold_keepsEngine (c : Chan) : s.KeepsEngine (s.dropHold c) := setClaims_keepsEngine s c _

theorem countdownChannel_keepsEngine (c : Chan) : s.KeepsEngine (s.countdownChannel c) := by
  unfold State.countdownChannel
  dsimp only
  split
  · exact (setClaims_keepsEngine s c _).trans (dropOverride_keepsEngine _ c)
  · exact setClaims_keepsEngine s c _

theorem placeClaims_keepsEngine (i : SlotNo) (b : EntryBody) (m : CalMinute) : s.KeepsEngine (s.placeClaims i b m) :=
  (pass_keepsEngine _ (fun s c => (setClaims_keepsEngine s c _).trans (endUntilNext_keepsEngine _ c)) _).behind rfl rfl rfl

theorem renewClaims_keepsEngine (i : SlotNo) (b : EntryBody) (m : CalMinute) : s.KeepsEngine (s.renewClaims i b m) :=
  pass_keepsEngine s (fun s c => setClaims_keepsEngine s c _) _

theorem takeClaims_keepsEngine (i : SlotNo) (b : EntryBody) : s.KeepsEngine (s.takeClaims i b) := by
  refine (forEach_keepsEngine (fun s c => ?_) _ _).behind rfl rfl rfl
  split
  · exact (setClaims_keepsEngine s c _).trans (endUntilNext_keepsEngine _ c)
  · exact .refl s

theorem removeClaims_keepsEngine (i : SlotNo) (b : EntryBody) : s.KeepsEngine (s.removeClaims i b) :=
  (takeClaims_keepsEngine s i b).trans (retargetAll_keepsEngine _ _)

theorem dropClaims_keepsEngine (i : SlotNo) (e : Entry) : s.KeepsEngine (s.dropClaims i e) := by
  unfold State.dropClaims
  split
  · exact (removeClaims_keepsEngine s i _).trans (raise_keepsEngine _ _ _ _)
  · exact .refl s

theorem stripClaims_keepsEngine (i : SlotNo) (e : Entry) : s.KeepsEngine (s.stripClaims i e) := by
  unfold State.stripClaims
  split
  · exact (takeClaims_keepsEngine s i _).trans (raise_keepsEngine _ _ _ _)
  · exact .refl s

/-! ## Entries (R9, R10, R14, R20, R44) -/

theorem start_keepsEngine (i : SlotNo) (f : Option CalMinute) : s.KeepsEngine (s.start i f) := by
  unfold State.start
  split
  · exact .refl s
  · split
    · split
      · exact .of_items rfl rfl rfl
      · exact (placeClaims_keepsEngine s i _ _).trans (.of_items rfl rfl rfl)
    · split
      · exact .refl s
      · exact (renewClaims_keepsEngine s i _ _).trans (.of_items rfl rfl rfl)
    · exact .refl s

theorem endClaim_keepsEngine (i : SlotNo) : s.KeepsEngine (s.endClaim i) := by
  unfold State.endClaim
  split
  · exact .refl s
  · split
    · next e _ _ _ _ _ =>
      refine (removeClaims_keepsEngine s i e.body).trans ?_
      dsimp only
      repeat' split
      all_goals exact .of_items rfl rfl rfl
    · exact .refl s

theorem retireOpen_keepsEngine (i : SlotNo) : s.KeepsEngine (s.retireOpen i) := by
  unfold State.retireOpen
  split
  · exact .refl s
  · exact (stripClaims_keepsEngine s i _).trans (.of_items rfl rfl rfl)

theorem retire_keepsEngine (i : SlotNo) : s.KeepsEngine (s.retire i) := by
  unfold State.retire
  split
  · exact .refl s
  · exact (retireOpen_keepsEngine s i).trans (retargetAll_keepsEngine _ _)

theorem retireStored_keepsEngine (i : SlotNo) : s.KeepsEngine (s.retireStored i) := by
  unfold State.retireStored
  split
  · exact .refl s
  · split
    · exact retire_keepsEngine s i
    · exact .refl s

theorem catchUp_keepsEngine (i : SlotNo) : s.KeepsEngine (s.catchUp i) := by
  unfold State.catchUp
  split
  · exact .refl s
  · split
    · split
      · dsimp only
        split
        · exact start_keepsEngine s i _
        · exact .refl s
      · exact .refl s
    · exact .refl s

theorem chooseSlot_keepsEngine {s t : State} {i : SlotNo} (h : s.chooseSlot = some (i, t)) : s.KeepsEngine t := by
  unfold State.chooseSlot at h
  split at h
  · cases h; exact .refl s
  · split at h
    · cases h; exact .of_items rfl rfl rfl
    · cases h

theorem makeEntry_keepsEngine {s t : State} {o : Origin} {b : EntryBody} {i : SlotNo} (h : s.makeEntry o b = .ok (i, t)) :
    s.KeepsEngine t := by
  unfold State.makeEntry at h
  dsimp only at h
  split at h
  · cases h
  · split at h
    · cases h
    · next hc =>
      cases h
      exact (chooseSlot_keepsEngine hc).trans ((catchUp_keepsEngine _ _).behind rfl rfl rfl)

/-! ## The calendar (R53 to R55, R59) -/

theorem calendarDayWork_keepsEngine : s.KeepsEngine s.calendarDayWork := by
  unfold State.calendarDayWork State.lapse
  split <;> exact .of_items rfl rfl rfl

theorem keepRecords_keepsEngine (keep : ExceptionRecord → Bool) : s.KeepsEngine (s.keepRecords keep) := by
  unfold State.keepRecords
  split <;> exact .of_items rfl rfl rfl

theorem addRecord_keepsEngine {s t : State} {o : Origin} {x : ExceptionSpan × DayClass} (h : s.addRecord o x = .ok t) :
    s.KeepsEngine t := by
  unfold State.addRecord at h
  dsimp only at h
  repeat' split at h
  all_goals cases h
  exact .of_items rfl rfl rfl

theorem recomputeToday_keepsEngine : s.KeepsEngine s.recomputeToday := .of_items rfl rfl rfl

theorem emptied_keepsEngine : s.KeepsEngine s.emptied :=
  ((forEach_keepsEngine retireOpen_keepsEngine allSlots s).trans (keepRecords_keepsEngine _ _)).trans
    (recomputeToday_keepsEngine _)

theorem clearAll_keepsEngine : s.KeepsEngine s.clearAll := by
  rw [clearAll_eq]
  exact (emptied_keepsEngine s).trans (pass_keepsEngine _ dropOverride_keepsEngine allChannels)

/-! ## Passes over the table (R31 to R37, R45) -/

theorem tickSlot_keepsEngine (i : SlotNo) : s.KeepsEngine (s.tickSlot i) := by
  unfold State.tickSlot
  split
  · exact .refl s
  · split
    · dsimp only
      split
      · exact (endClaim_keepsEngine _ i).behind rfl rfl rfl
      · exact .of_items rfl rfl rfl
    · exact .refl s

theorem expireSlot_keepsEngine (b : Bool) (i : SlotNo) : s.KeepsEngine (s.expireSlot b i) := by
  unfold State.expireSlot
  repeat' split
  all_goals exact .of_items rfl rfl rfl

theorem armSlot_keepsEngine (i : SlotNo) : s.KeepsEngine (s.armSlot i) := by
  unfold State.armSlot
  repeat' split
  all_goals exact .of_items rfl rfl rfl

theorem expiryArming_keepsEngine (b : Bool) : s.KeepsEngine (s.expiryTest b).arming :=
  (forEach_keepsEngine (fun s i => expireSlot_keepsEngine s b i) allSlots s).trans
    (forEach_keepsEngine armSlot_keepsEngine allSlots _)

theorem dayRollover_keepsEngine : s.KeepsEngine s.dayRollover := by
  unfold State.dayRollover
  dsimp only
  split
  · exact (calendarDayWork_keepsEngine s).trans (expiryArming_keepsEngine _ false)
  · exact calendarDayWork_keepsEngine s

theorem startSlot_keepsEngine (i : SlotNo) : s.KeepsEngine (s.startSlot i) := by
  unfold State.startSlot
  split
  · exact .refl s
  · split
    · exact start_keepsEngine s i _
    · exact .refl s

theorem minuteEvaluation_keepsEngine : s.KeepsEngine s.minuteEvaluation := by
  unfold State.minuteEvaluation
  refine (forEach_keepsEngine tickSlot_keepsEngine allSlots s).trans ?_
  dsimp only
  generalize s.forEach allSlots State.tickSlot = u
  have hroll : u.KeepsEngine (if u.time.time.tod == ⟨0, 0⟩ then u.dayRollover else u) := by
    split
    · exact dayRollover_keepsEngine u
    · exact .refl u
  refine hroll.trans ?_
  generalize (if u.time.time.tod == ⟨0, 0⟩ then u.dayRollover else u) = v
  split
  · exact forEach_keepsEngine startSlot_keepsEngine allSlots v
  · exact .refl v

theorem lightEndSlot_keepsEngine (ev : LightEvent) (i : SlotNo) : s.KeepsEngine (s.lightEndSlot ev i) := by
  unfold State.lightEndSlot
  split
  · exact .refl s
  · split
    · exact endClaim_keepsEngine s i
    · exact .refl s

theorem lightStartSlot_keepsEngine (ev : LightEvent) (i : SlotNo) : s.KeepsEngine (s.lightStartSlot ev i) := by
  unfold State.lightStartSlot
  split
  · exact .refl s
  · split
    · exact start_keepsEngine s i _
    · exact .refl s

theorem lightEvent_keepsEngine (ev : LightEvent) : s.KeepsEngine (s.lightEvent ev) :=
  (forEach_keepsEngine (fun s i => lightEndSlot_keepsEngine s ev i) allSlots s).trans
    (forEach_keepsEngine (fun s i => lightStartSlot_keepsEngine s ev i) allSlots _)

theorem endPastSlot_keepsEngine (i : SlotNo) : s.KeepsEngine (s.endPastSlot i) := by
  unfold State.endPastSlot
  split
  · exact .refl s
  · split
    · split
      · exact endClaim_keepsEngine s i
      · exact .refl s
    · exact .refl s

theorem setTimeSchedule_keepsEngine : s.KeepsEngine s.setTimeSchedule :=
  ((expiryArming_keepsEngine s true).trans (forEach_keepsEngine endPastSlot_keepsEngine allSlots _)).trans
    (forEach_keepsEngine catchUp_keepsEngine allSlots _)

theorem takeTime_keepsEngine (t : CalTime) : s.KeepsEngine (s.takeTime t) := by
  unfold State.takeTime
  refine State.KeepsEngine.trans ?_ ((calendarDayWork_keepsEngine _).trans (setTimeSchedule_keepsEngine _))
  split <;> exact .of_items rfl rfl rfl

/-! ## Slots on the crystal and the line (R90, R137) -/

theorem crystalTick_keepsEngine : s.KeepsEngine s.crystalTick := by
  unfold State.crystalTick
  dsimp only
  split
  · split
    · exact .of_items rfl rfl rfl
    · exact (switchingSlot_keepsEngine _).behind rfl rfl rfl
  · exact .refl s

/-! ## The Time Base and the Line Monitor (R122 to R137, R140) -/

theorem makeDoubtful_keepsEngine : s.KeepsEngine s.makeDoubtful := by
  unfold State.makeDoubtful
  split <;> exact .of_items rfl rfl rfl

theorem judgeSource_keepsEngine : s.KeepsEngine s.judgeSource := by
  unfold State.judgeSource State.handToLine State.handToCrystal
  dsimp only
  split
  · exact .refl s
  · split
    · exact .of_items rfl rfl rfl
    · split
      · exact .of_items rfl rfl rfl
      · exact (makeDoubtful_keepsEngine _).behind rfl rfl rfl

theorem secondBoundary_keepsEngine : s.KeepsEngine s.secondBoundary := by
  unfold State.secondBoundary
  dsimp only
  split
  · split
    · exact (makeDoubtful_keepsEngine s).trans (.of_items rfl rfl rfl)
    · exact .of_items rfl rfl rfl
  · exact .refl s

theorem stopCrystal_keepsEngine : s.KeepsEngine s.stopCrystal := by
  unfold State.stopCrystal
  dsimp only
  split
  · exact .refl s
  · split
    · exact (makeDoubtful_keepsEngine _).behind rfl rfl rfl
    · exact .of_items rfl rfl rfl

theorem runCrystal_keepsEngine : s.KeepsEngine s.runCrystal := by
  unfold State.runCrystal
  split <;> exact .of_items rfl rfl rfl

theorem updateLine_keepsEngine (l : LineMonitor) : s.KeepsEngine (s.updateLine l) := by
  unfold State.updateLine
  dsimp only
  split <;> exact .of_items rfl rfl rfl

theorem loseLine_keepsEngine : s.KeepsEngine s.loseLine := (updateLine_keepsEngine s _).trans (judgeSource_keepsEngine _)

theorem risingCrossing_keepsEngine : s.KeepsEngine s.risingCrossing := by
  unfold State.risingCrossing
  split
  · refine ((updateLine_keepsEngine s (s.line.rise s.cycles s.time.crystalRunning)).trans (judgeSource_keepsEngine _)).trans ?_
    generalize (s.updateLine (s.line.rise s.cycles s.time.crystalRunning)).judgeSource = u
    dsimp only
    split
    · split
      · exact (switchingSlot_keepsEngine _).behind rfl rfl rfl
      · exact switchingSlot_keepsEngine u
    · exact .refl u
  · exact .refl s

theorem fallingCrossing_keepsEngine : s.KeepsEngine s.fallingCrossing := by
  unfold State.fallingCrossing
  dsimp only
  split
  · split
    · exact (switchingSlot_keepsEngine _).behind rfl rfl rfl
    · exact .of_items rfl rfl rfl
  · exact .refl s

theorem absenceTimeout_keepsEngine : s.KeepsEngine s.absenceTimeout := by
  unfold State.absenceTimeout
  split
  · exact loseLine_keepsEngine s
  · exact .refl s

theorem takeMinuteTick_keepsEngine : s.KeepsEngine s.takeMinuteTick := by
  unfold State.takeMinuteTick
  split
  · exact (minuteEvaluation_keepsEngine _).behind rfl rfl rfl
  · exact .refl s

theorem takeClaimTick_keepsEngine : s.KeepsEngine s.takeClaimTick := by
  unfold State.takeClaimTick
  split
  · exact (pass_keepsEngine _ countdownChannel_keepsEngine allChannels).behind rfl rfl rfl
  · exact .refl s

/-! ## The Light Monitor (R111, R117, R120) -/

theorem updateLight_keepsEngine (l : LightMonitor) : s.KeepsEngine (s.updateLight l) := by
  unfold State.updateLight
  dsimp only
  split <;> exact .of_items rfl rfl rfl

theorem luxSample_keepsEngine (v : Nat) : s.KeepsEngine (s.luxSample v) := by
  unfold State.luxSample
  split
  · split
    · exact updateLight_keepsEngine s _
    · exact (updateLight_keepsEngine s _).trans (lightEvent_keepsEngine _ _)
  · exact .refl s

/-! ## The Button Unit (R106 to R110) -/

theorem setPress_keepsEngine (b : ButtonNo) (p : PressState) : s.KeepsEngine (s.setPress b p) := .of_items rfl rfl rfl

theorem reportHeld_keepsEngine (cs : List Chan) : s.KeepsEngine (s.reportHeld cs) :=
  forEach_keepsEngine (fun s _ => raise_keepsEngine s _ _ _) cs s

theorem shortPress_keepsEngine (b : ButtonNo) : s.KeepsEngine (s.shortPress b) := by
  unfold State.shortPress
  dsimp only
  split
  · exact (reportHeld_keepsEngine s _).trans (.of_items rfl rfl rfl)
  · exact ((reportHeld_keepsEngine s _).trans (pass_keepsEngine _ (fun s c => putOverride_keepsEngine s c _ _ _) _)).trans
      (.of_items rfl rfl rfl)

theorem longPressAction_keepsEngine (b : ButtonNo) : s.KeepsEngine (s.longPressAction b) := by
  unfold State.longPressAction
  dsimp only
  split
  · exact (reportHeld_keepsEngine s _).trans (.of_items rfl rfl rfl)
  · exact ((reportHeld_keepsEngine s _).trans (pass_keepsEngine _ dropOverride_keepsEngine _)).trans (.of_items rfl rfl rfl)

theorem releaseConfirm_keepsEngine (b : ButtonNo) : s.KeepsEngine (s.releaseConfirm b) := by
  unfold State.releaseConfirm
  split
  · split
    · split
      · exact (shortPress_keepsEngine s b).trans (setPress_keepsEngine _ b _)
      · exact .of_items rfl rfl rfl
    · exact setPress_keepsEngine s b _
  · exact .refl s

theorem longPress_keepsEngine (b : ButtonNo) : s.KeepsEngine (s.longPress b) := by
  unfold State.longPress
  split
  · exact (longPressAction_keepsEngine s b).trans (setPress_keepsEngine _ b _)
  · exact .refl s

theorem inputLow_keepsEngine (b : ButtonNo) : s.KeepsEngine (s.inputLow b) := by
  unfold State.inputLow
  dsimp only
  split
  · exact .refl s
  · refine (releaseConfirm_keepsEngine s b).trans ?_
    generalize s.releaseConfirm b = u
    have hlevel : u.KeepsEngine (let v := u.setButton b { u.button b with pinLow := true }
        if v.supply.state = .backup then v else v.setButton b { v.button b with sampledLow := true }) := by
      dsimp only
      split <;> exact .of_items rfl rfl rfl
    refine hlevel.trans ?_
    dsimp only
    generalize (if (u.setButton b _).supply.state = .backup then _ else _) = v
    split
    · split
      · exact setPress_keepsEngine v b _
      · exact setPress_keepsEngine v b _
      · split
        · exact (longPressAction_keepsEngine v b).trans (setPress_keepsEngine _ b _)
        · exact setPress_keepsEngine v b _
      · exact setPress_keepsEngine v b _
    · exact .refl v

theorem inputHigh_keepsEngine (b : ButtonNo) : s.KeepsEngine (s.inputHigh b) := by
  unfold State.inputHigh
  dsimp only
  repeat' split
  all_goals exact .of_items rfl rfl rfl

theorem debounceExpiry_keepsEngine (b : ButtonNo) : s.KeepsEngine (s.debounceExpiry b) := by
  unfold State.debounceExpiry
  repeat' split
  all_goals exact .of_items rfl rfl rfl

/-! ## Loads (R159 to R162) -/

theorem endLoad_keepsEngine (l : LoadRecord) : s.KeepsEngine (s.endLoad l) := .of_items rfl rfl rfl

theorem setLoad_keepsEngine (l : LoadRecord) : s.KeepsEngine (s.setLoad l) := .of_items rfl rfl rfl

theorem retirePhase_keepsEngine : s.KeepsEngine s.retirePhase :=
  (forEach_keepsEngine retireStored_keepsEngine allSlots s).trans (keepRecords_keepsEngine _ _)

theorem retired_keepsEngine (src : LoadSource) : s.KeepsEngine (s.retired src) :=
  ((setLoad_keepsEngine s _).trans (retirePhase_keepsEngine _)).trans (setLoad_keepsEngine _ _)

theorem startLoad_keepsEngine (src : LoadSource) : s.KeepsEngine (s.startLoad src) := by
  cases ht : headerTests s.store.array with
  | some r => rw [startLoad_of_bad src ht]; exact endLoad_keepsEngine s _
  | none =>
    rw [startLoad_of_good src ht]
    split
    · exact (retired_keepsEngine s src).trans (endLoad_keepsEngine _ _)
    · exact retired_keepsEngine s src

/-! ## The supply (R99, R143 to R148) -/

theorem enterBackup_keepsEngine : s.KeepsEngine s.enterBackup := by
  by_cases hup : s.supply.state = .backup
  · rw [State.enterBackup, if_pos hup]
    exact .refl s
  · rw [enterBackup_eq hup]
    exact (((abandonAll_keepsEngine _ s).trans (loseLine_keepsEngine _)).trans (updateLight_keepsEngine _ _)).trans
      (forEach_keepsEngine (fun s b => setPress_keepsEngine s b _) allButtons _)

theorem countdownSecond_keepsEngine : s.KeepsEngine s.countdownSecond := by
  unfold State.countdownSecond
  split <;> exact .of_items rfl rfl rfl

theorem countdownExpiry_keepsEngine : s.KeepsEngine s.countdownExpiry := by
  unfold State.countdownExpiry
  split
  · exact enterRun_keepsEngine s
  · exact .refl s

theorem retainedLoss_keepsEngine : s.KeepsEngine s.retainedLoss := by
  unfold State.retainedLoss
  split <;> exact .of_items rfl rfl rfl

theorem powerUpValues_keepsEngine (b : Bool) : s.KeepsEngine (s.powerUpValues b) := .of_cold rfl rfl

variable {s} in
/-- The entry to RESTORING finds the relays as BACKUP holds them, or gives them their cold-start values (R145, R146). -/
theorem restored_keepsEngine (hu : s.supply.state = .backup) : s.KeepsEngine s.restored := by
  cases hv : s.supply.signatureValid with
  | true => rw [restored_of_valid hv]; exact .of_relays rfl rfl fun _ => by rw [hu]; nofun
  | false => rw [restored_of_invalid hv]; exact .of_cold rfl rfl

variable {s} in
theorem enterRestoring_keepsEngine (hu : s.supply.state = .backup) : s.KeepsEngine s.enterRestoring := by
  have hload : s.KeepsEngine s.restoredLoading := by
    unfold State.restoredLoading
    split
    · exact (restored_keepsEngine hu).trans (startLoad_keepsEngine _ .restore)
    · exact restored_keepsEngine hu
  rw [enterRestoring_eq]
  split
  · exact hload.trans (enterRun_keepsEngine _)
  · exact hload

theorem mainsReturn_keepsEngine : s.KeepsEngine s.mainsReturn := by
  unfold State.mainsReturn
  split
  · next hu =>
    split
    · exact (powerUpValues_keepsEngine s _).trans (enterRestoring_keepsEngine rfl)
    · exact enterRestoring_keepsEngine hu
  · exact .refl s

theorem powerUp_keepsEngine (a b : Bool) : s.KeepsEngine (s.powerUp a b) := by
  unfold State.powerUp
  dsimp only
  split
  · split
    · exact (powerUpValues_keepsEngine s b).trans (enterRestoring_keepsEngine rfl)
    · exact powerUpValues_keepsEngine s b
  · exact .refl s

/-! ## Items of a load and the commands that share them (R161, R192) -/

section
variable {s} {t : State} {p : List Byte}

theorem configureItem_keepsEngine {c : Chan} (h : configureItem p s = .ok (c, t)) : s.KeepsEngine t := by
  unfold configureItem at h
  repeat' split at h
  all_goals cases h
  exact applyConfig_keepsEngine s _ _

theorem entryItem_keepsEngine (h : entryItem p s = .ok t) : s.KeepsEngine t := by
  unfold entryItem at h
  repeat' split at h
  all_goals cases h
  next hm => exact makeEntry_keepsEngine hm

theorem addExceptionItem_keepsEngine {o : Origin} (h : addExceptionItem o p s = .ok t) : s.KeepsEngine t := by
  unfold addExceptionItem at h
  split at h
  · split at h
    · exact addRecord_keepsEngine h
    · cases h
  · cases h

theorem lightLimitsItem_keepsEngine (h : lightLimitsItem p s = .ok t) : s.KeepsEngine t := by
  unfold lightLimitsItem at h
  dsimp only at h
  repeat' split at h
  all_goals cases h
  exact .of_items rfl rfl rfl

theorem buttonItem_keepsEngine {b : ButtonNo} (h : buttonItem p s = .ok (b, t)) : s.KeepsEngine t := by
  unfold buttonItem at h
  repeat' split at h
  all_goals cases h
  exact .of_items rfl rfl rfl

theorem timeSourceItem_keepsEngine (h : timeSourceItem p s = .ok t) : s.KeepsEngine t := by
  unfold timeSourceItem at h
  repeat' split at h
  all_goals cases h
  all_goals exact (judgeSource_keepsEngine _).behind rfl rfl rfl

theorem lineConfirmItem_keepsEngine (h : lineConfirmItem p s = .ok t) : s.KeepsEngine t := by
  unfold lineConfirmItem at h
  repeat' split at h
  all_goals cases h
  exact .of_items rfl rfl rfl

theorem supplyItem_keepsEngine (h : supplyItem p s = .ok t) : s.KeepsEngine t := by
  unfold supplyItem at h
  repeat' split at h
  all_goals cases h
  exact .of_items rfl rfl rfl

theorem applyItem_keepsEngine {type : Byte} (h : applyItem type p s = .ok t) : s.KeepsEngine t := by
  unfold applyItem at h
  split at h
  · obtain ⟨x, hx, rfl⟩ := ok_of_map h
    exact configureItem_keepsEngine hx
  · exact entryItem_keepsEngine h
  · exact addExceptionItem_keepsEngine h
  · exact lightLimitsItem_keepsEngine h
  · obtain ⟨x, hx, rfl⟩ := ok_of_map h
    exact buttonItem_keepsEngine hx
  · exact lineConfirmItem_keepsEngine h
  · exact supplyItem_keepsEngine h
  · exact timeSourceItem_keepsEngine h
  · cases h

end

theorem takeItem_keepsEngine (n : NextItem) : s.KeepsEngine (s.takeItem n) := by
  unfold State.takeItem
  dsimp only
  split
  · next hv => exact (applyItem_keepsEngine hv).trans (setLoad_keepsEngine _ _)
  · exact setLoad_keepsEngine s _

theorem loadStep_keepsEngine : s.KeepsEngine s.loadStep := by
  cases hd : s.loadStepDue with
  | none => rw [loadStep_of_none hd]; exact .refl s
  | some n =>
    rw [loadStep_of_due hd]
    split
    · exact (takeItem_keepsEngine s n).trans (endLoad_keepsEngine _ _)
    · exact takeItem_keepsEngine s n

/-! ## Commands -/

variable (p : List Byte)

theorem cmdCreateEntry_keepsEngine : Answers s.KeepsEngine (cmdCreateEntry p s) := by
  refine answers_check (answers_check ?_)
  split
  · exact answers_error
  · split
    · exact answers_error
    · next hm => exact answers_ok (makeEntry_keepsEngine hm)

theorem cmdModifyEntry_keepsEngine : Answers s.KeepsEngine (cmdModifyEntry p s) := by
  refine answers_check ?_
  split
  · refine answers_check fun t q ha => ?_
    obtain ⟨i, e, -, -, -, hg⟩ := withHandle_ok ha
    split at hg
    · cases hg
    · obtain ⟨-, hg⟩ := check_ok hg
      obtain ⟨-, hg⟩ := check_ok hg
      cases hg
      exact (dropClaims_keepsEngine s i e).trans ((catchUp_keepsEngine _ i).behind rfl rfl rfl)
  · exact answers_error

theorem cmdSuspendEntry_keepsEngine : Answers s.KeepsEngine (cmdSuspendEntry p s) := by
  refine handleCommand_answers fun i e _ => answers_check (answers_ok ?_)
  refine (dropClaims_keepsEngine s i e).trans (State.KeepsEngine.trans ?_ (raise_keepsEngine _ _ _ _))
  split <;> exact .of_items rfl rfl rfl

theorem cmdResumeEntry_keepsEngine : Answers s.KeepsEngine (cmdResumeEntry p s) := by
  refine handleCommand_answers fun i e _ => answers_check (answers_ok ?_)
  refine State.KeepsEngine.trans ?_ ((raise_keepsEngine _ _ _ _).trans (catchUp_keepsEngine _ i))
  split <;> exact .of_items rfl rfl rfl

theorem cmdRetireEntry_keepsEngine : Answers s.KeepsEngine (cmdRetireEntry p s) :=
  handleCommand_answers fun i _ _ => answers_ok (retire_keepsEngine s i)

theorem cmdStartEntry_keepsEngine : Answers s.KeepsEngine (cmdStartEntry p s) :=
  handleCommand_answers fun i _ _ => answers_check (answers_ok (start_keepsEngine s i none))

theorem cmdEndEntry_keepsEngine : Answers s.KeepsEngine (cmdEndEntry p s) :=
  handleCommand_answers fun i _ _ => answers_check (answers_ok (endClaim_keepsEngine s i))

theorem cmdClearAll_keepsEngine : Answers s.KeepsEngine (cmdClearAll p s) :=
  answers_check (answers_check (answers_ok (clearAll_keepsEngine s)))

theorem cmdAddException_keepsEngine : Answers s.KeepsEngine (cmdAddException p s) := by
  refine answers_check ?_
  split
  · next ha => exact answers_ok (addExceptionItem_keepsEngine ha)
  · exact answers_error

theorem cmdRemoveException_keepsEngine : Answers s.KeepsEngine (cmdRemoveException p s) := by
  refine answers_check ?_
  split
  · split
    · exact answers_check (answers_ok (keepRecords_keepsEngine s _))
    · exact answers_error
  · exact answers_error

theorem cmdOverride_keepsEngine : Answers s.KeepsEngine (cmdOverride p s) := by
  unfold cmdOverride
  split
  · split
    · exact answers_check (answers_ok (pass_keepsEngine s (fun s c => putOverride_keepsEngine s c _ _ _) _))
    · exact answers_error
  · exact answers_error

theorem cmdClearOverride_keepsEngine : Answers s.KeepsEngine (cmdClearOverride p s) := by
  unfold cmdClearOverride
  split
  · exact answers_check (answers_ok (pass_keepsEngine s dropOverride_keepsEngine _))
  · exact answers_error

theorem cmdHold_keepsEngine : Answers s.KeepsEngine (cmdHold p s) := by
  unfold cmdHold
  split
  · split
    · exact answers_check (answers_ok (pass_keepsEngine s (fun s c => putHold_keepsEngine s c _) _))
    · exact answers_error
  · exact answers_error

theorem cmdReleaseHold_keepsEngine : Answers s.KeepsEngine (cmdReleaseHold p s) := by
  unfold cmdReleaseHold
  split
  · exact answers_check (answers_ok (pass_keepsEngine s dropHold_keepsEngine _))
  · exact answers_error

theorem cmdConfigureChannel_keepsEngine : Answers s.KeepsEngine (cmdConfigureChannel p s) := by
  refine answers_check ?_
  split
  · exact answers_error
  · next hi => exact answers_ok (configureItem_keepsEngine hi)

theorem cmdSetStagger_keepsEngine : Answers s.KeepsEngine (cmdSetStagger p s) := by
  unfold cmdSetStagger
  split
  · exact answers_check (answers_ok (.of_items rfl rfl rfl))
  · exact answers_error

theorem cmdConfigureButton_keepsEngine : Answers s.KeepsEngine (cmdConfigureButton p s) := by
  refine answers_check ?_
  split
  · exact answers_error
  · next hi => exact answers_ok (buttonItem_keepsEngine hi)

theorem cmdSetLightLimits_keepsEngine : Answers s.KeepsEngine (cmdSetLightLimits p s) := by
  refine answers_check ?_
  split
  · exact answers_error
  · next hi => exact answers_ok (lightLimitsItem_keepsEngine hi)

theorem cmdSetTime_keepsEngine : Answers s.KeepsEngine (cmdSetTime p s) := by
  unfold cmdSetTime
  split
  · split
    · exact answers_error
    · exact answers_check (answers_ok (takeTime_keepsEngine s _))
  · exact answers_error

theorem cmdSetTimeSource_keepsEngine : Answers s.KeepsEngine (cmdSetTimeSource p s) := by
  unfold cmdSetTimeSource
  split
  · exact answers_error
  · next hi => exact answers_ok (timeSourceItem_keepsEngine hi)

theorem cmdSetLineConfirm_keepsEngine : Answers s.KeepsEngine (cmdSetLineConfirm p s) := by
  unfold cmdSetLineConfirm
  split
  · exact answers_error
  · next hi => exact answers_ok (lineConfirmItem_keepsEngine hi)

theorem cmdSetSupply_keepsEngine : Answers s.KeepsEngine (cmdSetSupply p s) := by
  unfold cmdSetSupply
  split
  · exact answers_ok (.of_items rfl rfl rfl)
  · exact answers_error

theorem cmdLoadDefaults_keepsEngine : Answers s.KeepsEngine (cmdLoadDefaults p s) :=
  answers_check (answers_check (answers_ok (startLoad_keepsEngine s .host)))

theorem cmdReadChanges_keepsEngine : Answers s.KeepsEngine (cmdReadChanges p s) := by
  unfold cmdReadChanges
  split
  · exact answers_check (answers_ok (.of_items rfl rfl rfl))
  · exact answers_error

theorem cmdSetNoticeMask_keepsEngine : Answers s.KeepsEngine (cmdSetNoticeMask p s) := by
  unfold cmdSetNoticeMask
  split
  · exact answers_check (answers_ok (.of_items rfl rfl rfl))
  · exact answers_error

end

theorem runCommand_keepsEngine (cmd : Byte) (p : List Byte) (s : State) : Answers s.KeepsEngine (runCommand cmd p s) := by
  have hread {a : Answer} (ha : Answers (· = s) a) : Answers s.KeepsEngine a := answers_mono ha fun t h => h ▸ .refl t
  unfold runCommand
  split
  · exact cmdCreateEntry_keepsEngine s p
  · exact hread (cmdReadEntry_reads p s)
  · exact cmdModifyEntry_keepsEngine s p
  · exact cmdSuspendEntry_keepsEngine s p
  · exact cmdResumeEntry_keepsEngine s p
  · exact cmdRetireEntry_keepsEngine s p
  · exact cmdStartEntry_keepsEngine s p
  · exact cmdEndEntry_keepsEngine s p
  · exact hread (cmdFindEntries_reads p s)
  · exact cmdClearAll_keepsEngine s p
  · exact cmdAddException_keepsEngine s p
  · exact cmdRemoveException_keepsEngine s p
  · exact hread (cmdListExceptions_reads p s)
  · exact hread (cmdDayClass_reads p s)
  · exact cmdOverride_keepsEngine s p
  · exact cmdClearOverride_keepsEngine s p
  · exact cmdHold_keepsEngine s p
  · exact cmdReleaseHold_keepsEngine s p
  · exact hread (cmdReadChannel_reads p s)
  · exact cmdConfigureChannel_keepsEngine s p
  · exact cmdSetStagger_keepsEngine s p
  · exact cmdConfigureButton_keepsEngine s p
  · exact hread (cmdReadButton_reads p s)
  · exact cmdSetLightLimits_keepsEngine s p
  · exact hread (cmdReadLight_reads p s)
  · exact cmdSetTime_keepsEngine s p
  · exact hread (cmdReadTime_reads p s)
  · exact cmdSetTimeSource_keepsEngine s p
  · exact cmdSetLineConfirm_keepsEngine s p
  · exact hread (cmdReadLine_reads p s)
  · exact cmdSetSupply_keepsEngine s p
  · exact hread (cmdReadSupply_reads p s)
  · exact hread (cmdReadStore_reads p s)
  · exact cmdLoadDefaults_keepsEngine s p
  · exact hread (cmdLoadStatus_reads p s)
  · exact cmdReadChanges_keepsEngine s p
  · exact cmdSetNoticeMask_keepsEngine s p
  · exact hread (cmdIdentify_reads p s)
  · exact answers_error

theorem cmdProgramStore_keepsEngine {p : List Byte} {tag : Byte} {s t : State} (h : cmdProgramStore p tag s = .ok t) :
    s.KeepsEngine t := by
  unfold cmdProgramStore at h
  repeat' split at h
  all_goals cases h
  exact .of_items rfl rfl rfl

/-- What the port does keeps the engine's invariant, since every command does. -/
theorem keepsEngine_portRelation : PortRelation State.KeepsEngine where
  refl := .refl
  trans := .trans
  port _ _ := .of_items rfl rfl rfl
  command := runCommand_keepsEngine
  program := cmdProgramStore_keepsEngine

theorem portReset_keepsEngine (s : State) : s.KeepsEngine s.portReset := by
  unfold State.portReset
  split <;> exact .of_items rfl rfl rfl

theorem programByteDone_keepsEngine (s : State) : s.KeepsEngine s.programByteDone := by
  unfold State.programByteDone
  split
  · exact .refl s
  · dsimp only
    split
    · exact (keepsEngine_portRelation.executor _).behind rfl rfl rfl
    · split
      · exact (keepsEngine_portRelation.executor _).behind rfl rfl rfl
      · exact .of_items rfl rfl rfl

/-! ## A step -/

theorem exec_keepsEngine {x : Instr} {s t : State} (hx : exec x s = .next t) : s.KeepsEngine t := by
  have hR := keepsEngine_portRelation
  have hrow {cmd tag : Byte} {p : List Byte} (he : (.next (s.submit cmd tag p) : Effect) = .next t) : s.KeepsEngine t := by
    cases he; exact hR.submit s cmd tag p
  have hevent {dt : Nat} {f : State → State} (hf : ∀ u : State, u.KeepsEngine (f u))
      (he : (.next (f (s.elapse dt)) : Effect) = .next t) : s.KeepsEngine t := by
    cases he; exact (elapse_keepsEngine s dt).trans (hf _)
  cases x with
  | transactionStart dt => exact hevent hR.startTransaction hx
  | statusByteShifted dt => exact hevent hR.statusShifted hx
  | replyLatch dt => exact hevent hR.latchReply hx
  | requestFrame dt bytes n => exact hevent (fun u => hR.endRequest u bytes n) hx
  | replyReadEnd dt n => exact hevent (fun u => hR.endRead u n) hx
  | portReset dt => exact hevent portReset_keepsEngine hx
  | portResetRelease dt => exact hevent hR.portRelease hx
  | programByteDone dt => exact hevent programByteDone_keepsEngine hx
  | enterBackup dt => exact hevent enterBackup_keepsEngine hx
  | mainsReturn dt => exact hevent mainsReturn_keepsEngine hx
  | restoreCountdownExpiry dt => exact hevent countdownExpiry_keepsEngine hx
  | retainedSupplyLoss dt => exact hevent retainedLoss_keepsEngine hx
  | powerUp a b => cases hx; exact powerUp_keepsEngine s a b
  | secondBoundary dt => exact hevent secondBoundary_keepsEngine hx
  | minuteEvaluation dt => exact hevent takeMinuteTick_keepsEngine hx
  | overrideCountdown dt => exact hevent takeClaimTick_keepsEngine hx
  | risingCrossing dt => exact hevent risingCrossing_keepsEngine hx
  | fallingCrossing dt => exact hevent fallingCrossing_keepsEngine hx
  | absenceTimeout dt => exact hevent absenceTimeout_keepsEngine hx
  | crystalStop dt => exact hevent stopCrystal_keepsEngine hx
  | crystalRun dt => exact hevent runCrystal_keepsEngine hx
  | crystalTick dt => exact hevent crystalTick_keepsEngine hx
  | coilAction dt c => exact hevent (fun u => coilAction_keepsEngine u c) hx
  | pulseStart dt c => exact hevent (fun u => pulseStart_keepsEngine u c) hx
  | operationComplete dt c => exact hevent (fun u => complete_keepsEngine u c) hx
  | buttonInputLow dt b => exact hevent (fun u => inputLow_keepsEngine u b) hx
  | buttonInputHigh dt b => exact hevent (fun u => inputHigh_keepsEngine u b) hx
  | buttonDebounceExpiry dt b => exact hevent (fun u => debounceExpiry_keepsEngine u b) hx
  | buttonReleaseConfirm dt b => exact hevent (fun u => releaseConfirm_keepsEngine u b) hx
  | longPress dt b => exact hevent (fun u => longPress_keepsEngine u b) hx
  | luxSample dt v => exact hevent (fun u => luxSample_keepsEngine u _) hx
  | loadStep dt => exact hevent loadStep_keepsEngine hx
  | restoreCountdownSecond dt => exact hevent countdownSecond_keepsEngine hx
  | _ => exact hrow hx

theorem step_keepsEngine {s t : State} (hs : step s = .next t) : s.KeepsEngine t :=
  keepsEngine_portRelation.step (fun _ _ => .of_items rfl rfl rfl) elapse_keepsEngine exec_keepsEngine hs

/-- Settles O11: every step is a change that keeps the engine's invariant, and with it the agreement of the relays. -/
theorem stepKeepsEngineInvariant : Obligations.StepKeepsEngineInvariant :=
  ⟨fun _ _ h hs => (step_keepsEngine hs).ok h, fun _ _ h ha hs => (step_keepsEngine hs).agree h ha⟩

end Sys2Proof.Machine
end
